-- ==== Sys2Proof/Word.lean ====
section
/-! DEFINITION. The widths of the WZ64's words: bytes, halfwords, registers, topic keys, line addresses, slot numbers. -/

namespace Sys2Proof

/-- A byte of a record or of a frame. -/
abbrev Byte := BitVec 8

/-- A halfword: two bytes, little-endian in records (00_scope.md, Byte order). -/
abbrev Half := BitVec 16

/-- A register of the window (R160). -/
abbrev Word := BitVec 32

/-- A 24-bit topic key or mask (R1). -/
abbrev Key := BitVec 24

/-- A line address, 0 to 31 (R29). -/
abbrev Addr := BitVec 5

/-- A slot number, slot 0 to slot 63 (R1). -/
abbrev SlotId := Fin 64

end Sys2Proof
end

