-- ==== Sys2Proof/Syntax.lean ====
section
/-! DEFINITION. The commands of the WZ64: one constructor for each row of spec/opcode_table.json, with the operands
its rule reads (log 5 says why the command executions do not name their record, log 7 what an access's number is). -/

namespace Sys2Proof

/-- What starts a power-on reset (R168). -/
inductive ResetCause
  /-- Supply rise. -/
  | supplyRise
  /-- A RESET pulse held low for so many microseconds. -/
  | pinLow (microseconds : Nat)
deriving DecidableEq, Repr

/-- The six ring-geometry registers (R106). -/
inductive GeometryReg
  | cmdBaseLo | cmdBaseHi | cmdSize | evtBaseLo | evtBaseHi | evtSize
deriving DecidableEq, Repr

/-- The width of an access to the register window (R160). The manual says only that an access may be narrower than 32
bits; that the narrow ones are those of 8 and of 16 bits is the model's choice (log 32). -/
inductive AccessWidth
  | byte | half | word
deriving DecidableEq, Repr

/-- The two kinds of bus-master access (R165). -/
inductive BusAccess
  | commandRead | eventWrite
deriving DecidableEq, Repr

/-- The reads a MAP_READ makes: of the ring controller, of the slot table controller, of the send scheduler; or all that
remain, together (R143, log 15). -/
inductive MapPart
  | ring | table | scheduler | rest
deriving DecidableEq, Repr

/-- The steps of the part, one for each row of spec/opcode_table.json. -/
inductive Instr
  /-- POWER_ON_RESET (R168). -/
  | powerOnReset (cause : ResetCause)
  /-- DEVICE_RESET: a CONTROL write with the device-reset bit (R163). -/
  | deviceReset
  /-- ENGINE_RESET: a CONTROL write with the engine-reset bit; `run` is the same write's run bit (R122, R162). -/
  | engineReset (run : Bool)
  /-- RUN_SET: a CONTROL write with run = 1 (R109). -/
  | runSet
  /-- RUN_CLEAR: a CONTROL write with run = 0 (R110). -/
  | runClear
  /-- STATUS_WRITE (R164). -/
  | statusWrite (value : Word)
  /-- RING_GEOMETRY_WRITE (R106). -/
  | ringGeometryWrite (reg : GeometryReg) (value : Word)
  /-- CMD_TAIL_WRITE (R107). -/
  | cmdTailWrite (value : Word)
  /-- EVT_HEAD_WRITE (R147). -/
  | evtHeadWrite (value : Word)
  /-- NOTIFY_LEVEL_WRITE (R158). -/
  | notifyLevelWrite (value : Word)
  /-- NOTIFY_QUIET_WRITE (R158). -/
  | notifyQuietWrite (value : Word)
  /-- REGISTER_WRITE_OTHER: a write to a read-only register, an unassigned offset, or a narrow or misaligned write
  (R160). -/
  | registerWriteOther (offset : Nat) (width : AccessWidth)
  /-- TAKE_BEGIN (R111). -/
  | takeBegin
  /-- CQ_READ_FAIL: the read with this access number fails (R120). -/
  | cqReadFail (access : Nat)
  /-- NOP: the taken NOP record executes (R128). -/
  | nop
  /-- STORE: the taken STORE record executes (R130). -/
  | store
  /-- FETCH: the taken FETCH record executes (R131). -/
  | fetch
  /-- SEND: the taken SEND record executes (R133). -/
  | send
  /-- CANCEL: the taken CANCEL record executes (R136). -/
  | cancel
  /-- TABLE_CLEAR: the taken TABLE_CLEAR record executes (R138). -/
  | tableClear
  /-- LINK_START: the taken LINK_START record executes (R139). -/
  | linkStart
  /-- LINK_STOP: the taken LINK_STOP record executes (R141). -/
  | linkStop
  /-- MAP_READ: the taken MAP_READ record makes one of its reads, or those that remain (R143). -/
  | mapRead (part : MapPart)
  /-- BARRIER: the taken BARRIER record executes (R145). -/
  | barrier
  /-- COMPLETION_WRITE: the write of the oldest done entry's completion begins (R151). -/
  | completionWrite
  /-- LINK_NOTICE_WRITE: the write of the pending link notice begins (R155). -/
  | linkNoticeWrite
  /-- READ_FOR_NOTICE: the event writer's claim is taken, and the front slot of the notice list is read (R152). -/
  | readForNotice
  /-- EVENT_WRITE_DONE: the write with this access number ends done (R149). -/
  | eventWriteDone (access : Nat)
  /-- EVENT_WRITE_FAIL: the write with this access number fails (R150). -/
  | eventWriteFail (access : Nat)
  /-- BUS_RESPONSE_TIMEOUT (R166). -/
  | busResponseTimeout (access : BusAccess)
  /-- QUIET_TIMER_EXPIRY (R157). -/
  | quietTimerExpiry
  /-- ACTIVITY_START: another node takes the line to the active level, for so many reference clocks (R32, log 8). -/
  | activityStart (clocks : Nat)
  /-- DATA_FRAME (R33). -/
  | dataFrame (source : Addr) (key : Key) (payload : List Byte)
  /-- SOLICIT_FRAME (R33). -/
  | solicitFrame (source : Addr) (key : Key)
  /-- TOKEN_FRAME (R67); the destination is the byte on the line (R29). -/
  | tokenFrame (source : Addr) (destination : Byte)
  /-- INVITE_FRAME (R70). -/
  | inviteFrame (source : Addr) (destination : Byte)
  /-- JOIN_FRAME (R78). -/
  | joinFrame (source : Addr) (destination : Byte)
  /-- CLAIM_FRAME (R65). -/
  | claimFrame (source : Addr)
  /-- FOREIGN_FRAME (R30). -/
  | foreignFrame
  /-- GARBLED_FRAME (R34). -/
  | garbledFrame
  /-- FILE_DATA (R47). -/
  | fileData
  /-- FILE_SOLICIT (R54). -/
  | fileSolicit
  /-- SILENCE_TIMEOUT (R69). -/
  | silenceTimeout
  /-- RESPONSE_WINDOW_EXPIRY (R39). -/
  | responseWindowExpiry
  /-- LONE_PAUSE_END (R81). -/
  | lonePauseEnd
  /-- SEND_OPPORTUNITY (R92). -/
  | sendOpportunity
  /-- FIND_AND_SNAPSHOT (R16). -/
  | findAndSnapshot
  /-- RING_FRAME_START (R37). -/
  | ringFrameStart
  /-- FRAME_END (R96). -/
  | frameEnd
  /-- RING_FRAME_END (R67). -/
  | ringFrameEnd
  /-- TAKE_END: the read with this access number ends done, with the record's 64 bytes (R112). -/
  | takeEnd (access : Nat) (record : List Byte)
  /-- LEAVE_RESET (R168). -/
  | leaveReset
deriving DecidableEq, Repr

end Sys2Proof
end

