-- ==== Sys2Proof/WellFormed.lean ====
section
/-! DEFINITION. Which commands are well formed: those whose operands the row's rule can meet. -/

namespace Sys2Proof

/-- The offsets of Table 9-1 whose registers take full-width writes; a full aligned write to one is another row
(R160). -/
def writableOffsets : List Nat :=
  [0x04, 0x08, 0x10, 0x14, 0x18, 0x1C, 0x28, 0x2C, 0x30, 0x34, 0x3C, 0x40]

/-- A REGISTER_WRITE_OTHER is any write to the window that no other row takes: not a full aligned write to a writable
register (R160). -/
def isOtherWrite (offset : Nat) (width : AccessWidth) : Bool :=
  decide (offset < 128) && !(decide (width = .word) && writableOffsets.contains offset)

/-- The well-formedness of a command's operands: a record has 64 bytes (R112), a payload at most 16 (R33), a
destination is at most 31 (R33), an offset lies in the window (R160). -/
def Instr.wf : Instr → Bool
  | .powerOnReset _ => true
  | .deviceReset => true
  | .engineReset _ => true
  | .runSet => true
  | .runClear => true
  | .statusWrite _ => true
  | .ringGeometryWrite _ _ => true
  | .cmdTailWrite _ => true
  | .evtHeadWrite _ => true
  | .notifyLevelWrite _ => true
  | .notifyQuietWrite _ => true
  | .registerWriteOther offset width => isOtherWrite offset width
  | .takeBegin => true
  | .cqReadFail _ => true
  | .nop => true
  | .store => true
  | .fetch => true
  | .send => true
  | .cancel => true
  | .tableClear => true
  | .linkStart => true
  | .linkStop => true
  | .mapRead _ => true
  | .barrier => true
  | .completionWrite => true
  | .linkNoticeWrite => true
  | .readForNotice => true
  | .eventWriteDone _ => true
  | .eventWriteFail _ => true
  | .busResponseTimeout _ => true
  | .quietTimerExpiry => true
  | .activityStart _ => true
  | .dataFrame _ _ payload => decide (payload.length ≤ 16)
  | .solicitFrame _ _ => true
  | .tokenFrame _ destination => decide (destination.toNat ≤ 31)
  | .inviteFrame _ destination => decide (destination.toNat ≤ 31)
  | .joinFrame _ destination => decide (destination.toNat ≤ 31)
  | .claimFrame _ => true
  | .foreignFrame => true
  | .garbledFrame => true
  | .fileData => true
  | .fileSolicit => true
  | .silenceTimeout => true
  | .responseWindowExpiry => true
  | .lonePauseEnd => true
  | .sendOpportunity => true
  | .findAndSnapshot => true
  | .ringFrameStart => true
  | .frameEnd => true
  | .ringFrameEnd => true
  | .takeEnd _ record => decide (record.length = 64)
  | .leaveReset => true

/-- `WellFormed i`: the operands of `i` are ones its rule admits. -/
abbrev WellFormed (i : Instr) : Prop := i.wf = true

end Sys2Proof
end

