-- ==== Sys2Proof/Config.lean ====
section
/-! DEFINITION. What the WZ64 fixes once: identity, line timing, limits; and the one value its manual leaves open. -/

namespace Sys2Proof.Config

/-- IDENT reads this in every state (R161). -/
def ident : Word := 0x5A570640

/-- The exclusive-or constant of the record check word (R114). -/
def checkConstant : Half := 0x5A5A

/-- The open command list holds at most 16 entries (R115). -/
def maxOpen : Nat := 16

/-- At most 15 long commands are open at once (R116). -/
def maxLong : Nat := 15

/-- The unheard count that means withdrawal (R82). -/
def unheardLimit : Nat := 6

/-- The silence timeout of a part with own address `a`, in bit times (R40). -/
def silenceTimeout (a : Addr) : Nat := 64 + 16 * a.toNat

/-- The response window, in bit times (R39). -/
def responseWindow : Nat := 24

/-- The lone pause, in bit times (R41). -/
def lonePause : Nat := 48

/-- The line rests at the idle level for so many bit times before an activity start is reported (R32, R43). -/
def idleBeforeStart : Nat := 2

/-- The answering time: the first frame of a holding entered by a TOKEN, a JOIN, and a TOKEN after a JOIN start
this many bit times after the frame they answer (R37). -/
def answerGap : Nat := 6

/-- The gap between the part's frames of one holding, in bit times (R37). -/
def frameGap : Nat := 4

/-- The 40 MHz reference clock makes 40 periods in a microsecond (R157, section 9.5). -/
def clocksPerMicrosecond : Nat := 40

/-- The quiet timer stops counting at this many microseconds (R157). -/
def quietLimit : Nat := 65535

/-- The host port's response timer: 2 ms in reference clocks (R166). -/
def busTimeoutClocks : Nat := 2000 * clocksPerMicrosecond

/-- The shortest RESET pulse that certainly resets the part, in microseconds (R168). -/
def resetPulse : Nat := 10

/-- FREE VALUE (log 11). "A low pulse shorter than 10 µs may or may not reset the part" (R168): whether the n-th
such pulse does. It has no body, so nothing in the model can know it. -/
opaque shortPulseResets : Nat → Bool

end Sys2Proof.Config
end

