-- ==== Sys2Proof/Machine/State.lean ====
section
/-! DEFINITION. The state of the WZ64, block by block (00_scope.md section 2.1), as plain data, and its reset. -/

namespace Sys2Proof.Machine

/-- A slot's role (R1, R4). -/
inductive Role
  | subscribe | publish
deriving DecidableEq, Repr

/-- A slot record, Table 1-1 (R1). -/
structure Slot where
  inService : Bool
  role : Role
  key : Key
  mask : Key
  maskInUse : Bool
  depotEnd : Bool
  answer : Bool
  notify : Bool
  keepFirst : Bool
  length : Nat
  data : Vector Byte 16
  source : Option Addr
  filingNumber : Option Half
  fresh : Bool
  overrun : Bool
  sendPending : Bool
deriving DecidableEq, Repr

/-- The record every slot holds after power-on reset (R23). -/
def Slot.powerOn : Slot where
  inService := false
  role := .subscribe
  key := 0
  mask := 0
  maskInUse := false
  depotEnd := false
  answer := false
  notify := false
  keepFirst := false
  length := 0
  data := Vector.replicate 16 0
  source := none
  filingNumber := none
  fresh := false
  overrun := false
  sendPending := false

/-- A filing request (R44). -/
inductive FilingRequest
  | data (source : Addr) (key : Key) (payload : List Byte)
  | solicit (source : Addr) (key : Key)
deriving DecidableEq, Repr

/-- The claims that wait at the slot table controller in the order they reached it (R9): the filing request, the slot
work of the command being executed, and the event writer's read for notice. A find-and-snapshot's claim goes ahead of
them all and is `WaitKind.claimed`. -/
inductive Claim
  | filing | command | notice
deriving DecidableEq, Repr

/-- The receiver's states (section 2.5); it is held besides while the part transmits (R35), which the frames in
flight say. -/
inductive Receiver
  | stopped | hunting | assembling
deriving DecidableEq, Repr

/-- The kinds of frame the ring controller asks for (R36, R88). -/
inductive RingFrameKind
  | claim | token | invite | join
deriving DecidableEq, Repr

/-- A frame of the ring controller in flight; a CLAIM has no destination (R29). -/
structure RingFrame where
  kind : RingFrameKind
  destination : Addr
deriving DecidableEq, Repr

/-- What waits for its start time (R36, R37, R91): a send opportunity, the find-and-snapshot claim it made (R92), a
JOIN ready for an inviter (R70), or a TOKEN to the successor (R78, R86). -/
inductive WaitKind
  | opportunity | claimed | join (inviter : Addr) | token
deriving DecidableEq, Repr

/-- A request waiting for its start time: `gap` bit times after the frame before it, `elapsed` reference clocks of
them gone (R37). -/
structure Waiting where
  kind : WaitKind
  gap : Nat
  elapsed : Nat
deriving DecidableEq, Repr

/-- The line unit. `idleClocks`: the reference clocks a hunting receiver has seen the line rest at the idle level, up to
the 2 bt an activity start needs (R32, R43). `gapClocks`: the reference clocks since the end of the part's last frame,
up to the least gap of 4 bt (R37, R86). `txClocks`: the transmit shifter's place in the frame in flight. -/
structure LineUnit where
  divider : Nat
  receiver : Receiver
  idleClocks : Nat
  gapClocks : Nat
  ringFrame : Option RingFrame
  txClocks : Nat
  waiting : Option Waiting
deriving DecidableEq, Repr

/-- A timer counting reference clocks: stopped, running, or held by an activity (section 2.7). -/
inductive Timer
  | stopped | running (clocks : Nat) | held (clocks : Nat)
deriving DecidableEq, Repr

/-- The link states (R64). -/
inductive LinkState
  | off | listen | joining | member | holding | inviting | passing | withdrawn
deriving DecidableEq, Repr

/-- The link conditions (R84). -/
inductive Condition
  | stopped | listening | inRing | alone | withdrawn
deriving DecidableEq, Repr

/-- The pass attempt (Table 4-1). -/
inductive Attempt
  | first | second
deriving DecidableEq, Repr

/-- The ring controller, Table 4-1 (R64). -/
structure Ring where
  link : LinkState
  ownAddress : Addr
  budget : Nat
  inviteInterval : Nat
  listenOnly : Bool
  selfFiling : Bool
  liveMap : BitVec 32
  awaited : Option Addr
  attempt : Attempt
  inviteCursor : Addr
  inviteCountdown : Nat
  rotation : Half
  unheard : Nat
  clash : Bool
  stopRequest : Bool
  window : Timer
  silence : Timer
  pause : Timer
  lastCondition : Condition
  lastSuccessor : Option Addr
deriving DecidableEq, Repr

/-- What a snapshot's frame is (R94). -/
inductive SnapshotBody
  | data (length : Nat) (bytes : Vector Byte 16)
  | solicit
deriving DecidableEq, Repr

/-- The snapshot of the frame in flight (R90, R94). -/
structure Snapshot where
  slot : SlotId
  key : Key
  body : SnapshotBody
deriving DecidableEq, Repr

/-- The send scheduler, Table 5-1 (R90). -/
structure Scheduler where
  holding : Bool
  stopRequest : Bool
  framesLeft : Nat
  cursor : SlotId
  snapshot : Option Snapshot
  sendingOpen : Bool
deriving DecidableEq, Repr

/-- The statuses of Table 7-2 (R126). -/
inductive Status
  | ok | sent | cancelled | tooLate | slotClosed | linkDown | listFull
  | badCheck | stale | badCommand | badSlot | badValue | slotLive | notInService | linkBusy
deriving DecidableEq, Repr

/-- What MAP_READ reads of the ring controller, together, between two of its steps (Table 7-4, R143). -/
structure RingCopy where
  link : LinkState
  condition : Condition
  liveMap : BitVec 32
  successor : Option Addr
  ownAddress : Addr
  rotation : Half
  unheard : Nat
  clash : Bool
deriving DecidableEq, Repr

/-- The reads a MAP_READ has made so far, each of its owner at that moment (R143). -/
structure MapReads where
  ring : Option RingCopy
  counter : Option Half
  cursor : Option SlotId
deriving DecidableEq, Repr

/-- The result fields of a completion (Table 10-7). -/
inductive Result
  | none
  /-- FETCH: the slot as it stood before any consume (R131). -/
  | fetch (copy : Slot)
  /-- CANCEL: send pending as it stood before the clear (R136). -/
  | cancel (pendingBefore : Bool)
  /-- MAP_READ, Table 7-4 (R143). -/
  | mapRead (ring : RingCopy) (filingCounter : Half) (cursor : SlotId)
deriving DecidableEq, Repr

/-- A completion: a status and the result fields (R115, R125). -/
structure Completion where
  status : Status
  result : Result
deriving DecidableEq, Repr

/-- The states of an open entry (R115); the completion is present in state done. -/
inductive EntryState
  | taking | waiting | attached | done (completion : Completion)
deriving DecidableEq, Repr

/-- An entry's kind (R116). -/
inductive EntryKind
  | immediate | long
deriving DecidableEq, Repr

/-- An entry of the open command list (R115). Tag, code and slot are zero and absent until the record is read (log 6). -/
structure Entry where
  index : Nat
  tag : Half
  code : Byte
  slot : Option SlotId
  kind : EntryKind
  state : EntryState
deriving DecidableEq, Repr

/-- The SETUP operands of a STORE (R129). -/
structure SetupOperands where
  inService : Bool
  role : Role
  key : Key
  mask : Key
  maskInUse : Bool
  depotEnd : Bool
deriving DecidableEq, Repr

/-- The BEHAVIOUR operands of a STORE (R129). -/
structure BehaviourOperands where
  answer : Bool
  notify : Bool
  keepFirst : Bool
deriving DecidableEq, Repr

/-- The CONTENT operands of a STORE (R129): the length and the record's 16 data bytes. -/
structure ContentOperands where
  length : Nat
  bytes : List Byte
deriving DecidableEq, Repr

/-- A STORE: its slot, the groups it selects and its two options (R129). -/
structure StoreOperands where
  slot : SlotId
  setup : Option SetupOperands
  behaviour : Option BehaviourOperands
  content : Option ContentOperands
  clearStatus : Bool
  sendAfter : Bool
deriving DecidableEq, Repr

/-- The operands and options of a LINK_START (R139). -/
structure LinkOptions where
  ownAddress : Addr
  divider : Nat
  budget : Nat
  inviteInterval : Nat
  listenOnly : Bool
  selfFiling : Bool
deriving DecidableEq, Repr

/-- A command record that has passed the checks of R113 (Table 7-1). -/
inductive Command
  | nop
  | store (operands : StoreOperands)
  | fetch (slot : SlotId) (consume : Bool)
  | send (slot : SlotId) (confirm : Bool)
  | cancel (slot : SlotId)
  | tableClear
  | linkStart (options : LinkOptions)
  | linkStop
  | mapRead
  | barrier
deriving DecidableEq, Repr

/-- The ten command codes of Table 7-1 (R124). -/
inductive CommandCode
  | nop | store | fetch | send | cancel | tableClear | linkStart | linkStop | mapRead | barrier
deriving DecidableEq, Repr

/-- The engine states (R108). -/
inductive EngineState
  | stopped | running | faulted
deriving DecidableEq, Repr

/-- The failing check of a refused run (R109). -/
inductive ConfigCause
  | cmdBase | cmdSize | cmdIndex | evtBase | evtSize | evtIndex
deriving DecidableEq, Repr

/-- The fault code of STATUS; BAD_CONFIG carries its cause, the others have none (R164). -/
inductive FaultCode
  | none | badConfig (cause : ConfigCause) | cqRead | eqWrite
deriving DecidableEq, Repr

/-- The command read in flight (R112, R165): its access number (log 7), the record's index and address, the phase
expected of it, and the response timer's reference clocks (R166). -/
structure CommandRead where
  access : Nat
  index : Nat
  address : BitVec 64
  phase : Bool
  clocks : Nat
deriving DecidableEq, Repr

/-- The queue engine. `checked` is the record that passed its checks and whose execution step has not ended (R111), and
`mapReads` the reads it has made when it is a MAP_READ (R143). -/
structure Engine where
  state : EngineState
  run : Bool
  fault : FaultCode
  head : Nat
  phase : Bool
  openList : List Entry
  credits : Nat
  cmdRead : Option CommandRead
  checked : Option Command
  mapReads : MapReads
deriving DecidableEq, Repr

/-- The pending link notice (R155). -/
structure LinkNotice where
  condition : Condition
  successor : Option Addr
  changes : Nat
deriving DecidableEq, Repr

/-- What an event write carries: the completion of the entry at a position of the open list, or a notice (R149). -/
inductive EventSource
  | completion (position : Nat) | notice
deriving DecidableEq, Repr

/-- The event write in flight (R149, R165): its access number (log 7), its address, its 32 bytes, what it carries, and
its response timer (R166). -/
structure EventWrite where
  access : Nat
  address : BitVec 64
  record : List Byte
  source : EventSource
  clocks : Nat
deriving DecidableEq, Repr

/-- The event writer. The quiet timer is kept in reference clocks (R157). -/
structure EventWriter where
  tail : Nat
  phase : Bool
  noticeList : List SlotId
  linkNotice : Option LinkNotice
  quietClocks : Nat
  write : Option EventWrite
deriving DecidableEq, Repr

/-- The host port's registers that no other block owns (Table 9-1). -/
structure Registers where
  cmdBaseLo : Word
  cmdBaseHi : Word
  cmdSize : BitVec 4
  cmdTail : Nat
  evtBaseLo : Word
  evtBaseHi : Word
  evtSize : BitVec 4
  evtHead : Nat
  notifyLevel : Nat
  notifyQuiet : Nat
  indexRefused : Bool
deriving DecidableEq, Repr

/-- The state of the part, block by block; `claims` are those waiting at the slot table controller. `lineActive` is the
level of the line as other nodes drive it: the reference clocks it stays at the active level yet, 0 at the idle level
(R32, log 8). `accessCount`, `freeCount` and `pending` are the model's own (INVENTORY.md). -/
structure State where
  slots : Vector Slot 64
  filingCounter : Half
  claims : List Claim
  filing : Option FilingRequest
  line : LineUnit
  ring : Ring
  sched : Scheduler
  engine : Engine
  events : EventWriter
  regs : Registers
  resetLow : Bool
  lineActive : Nat
  accessCount : Nat
  freeCount : Nat
  pending : List Instr
deriving DecidableEq, Repr

/-- The reasons a step of the part stops with a fault. There are none: the manual names no step that stops the part
(its own "faults" are states of the queue engine, R120 and R121), so no constructor is needed and no meaning raises
one. -/
inductive Fault
deriving DecidableEq, Repr

/-- The reasons a command has no meaning. -/
inductive Refusal
  /-- Raised by exec's arm of a row that has no meaning yet. Safe: nothing is claimed of such a row. -/
  | notModelled (mnemonic : String)
deriving DecidableEq, Repr

/-- The line unit after power-on or device reset (R43). -/
def LineUnit.atReset : LineUnit where
  divider := 40
  receiver := .stopped
  idleClocks := 0
  gapClocks := 0
  ringFrame := none
  txClocks := 0
  waiting := none

/-- The ring controller after power-on or device reset (Table 4-1, R89). -/
def Ring.atReset : Ring where
  link := .off
  ownAddress := 0
  budget := 4
  inviteInterval := 16
  listenOnly := false
  selfFiling := false
  liveMap := 0
  awaited := none
  attempt := .first
  inviteCursor := 0
  inviteCountdown := 0
  rotation := 0
  unheard := 0
  clash := false
  stopRequest := false
  window := .stopped
  silence := .stopped
  pause := .stopped
  lastCondition := .stopped
  lastSuccessor := none

/-- The send scheduler after power-on or device reset (R104). -/
def Scheduler.atReset : Scheduler where
  holding := false
  stopRequest := false
  framesLeft := 0
  cursor := 0
  snapshot := none
  sendingOpen := false

/-- No read of a MAP_READ made yet. -/
def MapReads.empty : MapReads where
  ring := none
  counter := none
  cursor := none

/-- The queue engine after power-on or device reset (R123). -/
def Engine.atReset : Engine where
  state := .stopped
  run := false
  fault := .none
  head := 0
  phase := true
  openList := []
  credits := 0
  cmdRead := none
  checked := none
  mapReads := MapReads.empty

/-- The event writer after power-on or device reset (R159). -/
def EventWriter.atReset : EventWriter where
  tail := 0
  phase := true
  noticeList := []
  linkNotice := none
  quietClocks := 0
  write := none

/-- The registers after power-on or device reset: all 0 (R163, R167). -/
def Registers.atReset : Registers where
  cmdBaseLo := 0
  cmdBaseHi := 0
  cmdSize := 0
  cmdTail := 0
  evtBaseLo := 0
  evtBaseHi := 0
  evtSize := 0
  evtHead := 0
  notifyLevel := 0
  notifyQuiet := 0
  indexRefused := false

/-- The part right after power-on reset, RESET high again (R23, R43, R63, R89, R104, R123, R159, R167, R168). -/
def State.reset : State where
  slots := Vector.replicate 64 Slot.powerOn
  filingCounter := 0
  claims := []
  filing := none
  line := LineUnit.atReset
  ring := Ring.atReset
  sched := Scheduler.atReset
  engine := Engine.atReset
  events := EventWriter.atReset
  regs := Registers.atReset
  resetLow := false
  lineActive := 0
  accessCount := 0
  freeCount := 0
  pending := []

end Sys2Proof.Machine
end

