-- ==== Sys2Proof/Machine/Flags.lean ====
section
/-! DEFINITION. What is read from the state rather than stored: the successor and the gap, the link condition, ring
sizes and free entries, the notify line, the frames in flight, whose turn it is at the slot table, and the values of the
registers. -/

namespace Sys2Proof.Machine

/-- The code of a link state in MAP_READ (Table 10-7). -/
def LinkState.code : LinkState → Byte
  | .off => 0 | .listen => 1 | .joining => 2 | .member => 3
  | .holding => 4 | .inviting => 5 | .passing => 6 | .withdrawn => 7

/-- The code of a link condition in STATUS and in event records (R169). -/
def Condition.code : Condition → Byte
  | .stopped => 0 | .listening => 1 | .inRing => 2 | .alone => 3 | .withdrawn => 4

/-- The code of a status (Table 7-2). -/
def Status.code : Status → Byte
  | .ok => 0 | .sent => 1 | .cancelled => 2 | .tooLate => 3 | .slotClosed => 4 | .linkDown => 5 | .listFull => 6
  | .badCheck => 16 | .stale => 17 | .badCommand => 18 | .badSlot => 19 | .badValue => 20
  | .slotLive => 21 | .notInService => 22 | .linkBusy => 23

/-! ### The live map -/

/-- Whether the live map marks address `a` (R65). -/
def marked (map : BitVec 32) (a : Addr) : Bool := map.getLsbD a.toNat

/-- The live map with address `a` marked (R65). -/
def setMark (map : BitVec 32) (a : Addr) : BitVec 32 := map ||| (1#32 <<< a.toNat)

/-- The live map with the mark of address `a` cleared (R80). -/
def clearMark (map : BitVec 32) (a : Addr) : BitVec 32 := map &&& ~~~(1#32 <<< a.toNat)

/-- The 31 addresses other than `own`, in wrapping order from own + 1 (R66). -/
def addressesAfter (own : Addr) : List Addr := (List.range 31).map fun d => own + BitVec.ofNat 5 (d + 1)

/-- The successor: the first marked address above the own address, wrapping, or none (R66). -/
def successorOf (own : Addr) (map : BitVec 32) : Option Addr := (addressesAfter own).find? (marked map)

/-- The ring controller's successor, derived afresh from its live map (R66). -/
def Ring.successor (r : Ring) : Option Addr := successorOf r.ownAddress r.liveMap

/-- The part is alone: it has no successor (R66). -/
def Ring.alone (r : Ring) : Bool := r.successor.isNone

/-- How far address `a` lies above the own address, in wrapping order. -/
def Ring.distance (r : Ring) (a : Addr) : Nat := (a - r.ownAddress).toNat

/-- Whether `a` lies in the gap: strictly between the own address and the successor, or any other address when alone
(R66). -/
def Ring.inGap (r : Ring) (a : Addr) : Bool :=
  match r.successor with
  | none => decide (a ≠ r.ownAddress)
  | some t => decide (a ≠ r.ownAddress) && decide (r.distance a < r.distance t)

/-- The first address of the gap: own address + 1, wrapping 31 to 0 (R77). -/
def Ring.gapFirst (r : Ring) : Addr := r.ownAddress + 1

/-- The gap is empty: the successor is the address next above the own address (R66). -/
def Ring.gapEmpty (r : Ring) : Bool := !r.inGap r.gapFirst

/-- The link condition of a link state and successor (R84). -/
def conditionOf (link : LinkState) (successor : Option Addr) : Condition :=
  match link with
  | .off => .stopped
  | .listen => .listening
  | .joining => .listening
  | .member => if successor.isSome then .inRing else .alone
  | .holding => if successor.isSome then .inRing else .alone
  | .inviting => if successor.isSome then .inRing else .alone
  | .passing => if successor.isSome then .inRing else .alone
  | .withdrawn => .withdrawn

/-- The present link condition (R84, R164). -/
def Ring.condition (r : Ring) : Condition := conditionOf r.link r.successor

/-- The ring timers do not run in OFF and WITHDRAWN (section 2.7, R83). -/
def LinkState.runsTimers (l : LinkState) : Bool := decide (l ≠ .off) && decide (l ≠ .withdrawn)

/-! ### The rings in host memory -/

/-- The command ring's size in records (R106). -/
def Registers.cmdRingSize (g : Registers) : Nat := 2 ^ g.cmdSize.toNat

/-- The event ring's size in records (R106). -/
def Registers.evtRingSize (g : Registers) : Nat := 2 ^ g.evtSize.toNat

/-- CMD_SIZE holds 3 to 10 (R106). -/
def Registers.cmdSizeValid (g : Registers) : Bool := decide (3 ≤ g.cmdSize.toNat) && decide (g.cmdSize.toNat ≤ 10)

/-- EVT_SIZE holds 5 to 12 (R106). -/
def Registers.evtSizeValid (g : Registers) : Bool := decide (5 ≤ g.evtSize.toNat) && decide (g.evtSize.toNat ≤ 12)

/-- How far index `b` lies after index `a` in a ring of `size` records. -/
def ringDistance (size a b : Nat) : Nat := (b + size - a % size) % size

/-- The index after `i` in a ring of `size` records: from size − 1 to 0 (R112, R149). -/
def ringNext (size i : Nat) : Nat := if i + 1 = size then 0 else i + 1

/-- The command records waiting (R107). -/
def State.recordsWaiting (s : State) : Nat := ringDistance s.regs.cmdRingSize s.engine.head s.regs.cmdTail

/-- The unconsumed events (R146). -/
def State.unconsumed (s : State) : Nat := ringDistance s.regs.evtRingSize s.regs.evtHead s.events.tail

/-- The free entries of the event ring (R119, R146). -/
def State.freeEntries (s : State) : Nat := s.regs.evtRingSize - 1 - s.unconsumed

/-- The address of command record `i` (R106, R165), of 64 bits: past 2^64 − 1 it goes on at 0, the model's choice (log
30). -/
def Registers.cmdAddress (g : Registers) (i : Nat) : BitVec 64 :=
  (g.cmdBaseHi ++ g.cmdBaseLo) + BitVec.ofNat 64 (64 * i)

/-- The address of event record `i` (R146, R165), of 64 bits: past 2^64 − 1 it goes on at 0, the model's choice (log
30). -/
def Registers.evtAddress (g : Registers) (i : Nat) : BitVec 64 :=
  (g.evtBaseHi ++ g.evtBaseLo) + BitVec.ofNat 64 (32 * i)

/-- The first failing check of the ring settings, in the order of R109. -/
def State.runCheck (s : State) : Option ConfigCause :=
  if s.regs.cmdBaseLo.toNat % 64 ≠ 0 then some .cmdBase
  else if !s.regs.cmdSizeValid then some .cmdSize
  else if s.regs.cmdRingSize ≤ s.regs.cmdTail ∨ s.regs.cmdRingSize ≤ s.engine.head then some .cmdIndex
  else if s.regs.evtBaseLo.toNat % 32 ≠ 0 then some .evtBase
  else if !s.regs.evtSizeValid then some .evtSize
  else if s.regs.evtRingSize ≤ s.regs.evtHead ∨ s.regs.evtRingSize ≤ s.events.tail then some .evtIndex
  else none

/-! ### The quiet timer and the notify line -/

/-- The quiet timer's count in microseconds (R157). -/
def EventWriter.quietMicros (e : EventWriter) : Nat := e.quietClocks / Config.clocksPerMicrosecond

/-- The quiet timer has expired (R157). -/
def State.quietExpired (s : State) : Bool :=
  decide (s.regs.notifyQuiet ≠ 0) && decide (s.regs.notifyQuiet ≤ s.events.quietMicros)

/-- The level condition (R156). -/
def State.levelCondition (s : State) : Bool :=
  decide (s.regs.notifyLevel ≠ 0) && decide (s.regs.notifyLevel ≤ s.unconsumed)

/-- The quiet condition (R156). -/
def State.quietCondition (s : State) : Bool := s.quietExpired && decide (1 ≤ s.unconsumed)

/-- The notify line is asserted (R156). -/
def State.notifyAsserted (s : State) : Bool := s.levelCondition || s.quietCondition

/-- The NOTIFY pin: driven low when asserted, released (high) otherwise and while RESET is low (R156, R168). -/
def State.notifyPin (s : State) : Bool := s.resetLow || !s.notifyAsserted

/-! ### Frames in flight -/

/-- A frame of the part is in flight; the receiver is then held (R35, R90). -/
def State.transmitting (s : State) : Bool := s.sched.snapshot.isSome || s.line.ringFrame.isSome

/-- The receiver is taking in an activity, so that an arrival can be reported: it is assembling (R32) and not held
(R35). -/
def State.hears (s : State) : Bool := decide (s.line.receiver = .assembling) && !s.transmitting

/-- The receiver hunts for an activity start, and is not held (R32, R35). -/
def State.hunts (s : State) : Bool := decide (s.line.receiver = .hunting) && !s.transmitting

/-- The reference clocks the line rests idle before an activity start is reported: 2 bt (R32). -/
def LineUnit.idleNeeded (l : LineUnit) : Nat := Config.idleBeforeStart * l.divider

/-- An active level of so many clocks is held through the middle of its bit time; a shorter one is a glitch (R32). -/
def LineUnit.holdsBit (l : LineUnit) (clocks : Nat) : Bool := decide (l.divider ≤ 2 * clocks)

/-- The reference clocks of the gap between the part's frames: 4 bt (R37). -/
def LineUnit.gapNeeded (l : LineUnit) : Nat := Config.frameGap * l.divider

/-- The line has rested at the idle level for 2 bt (R32). -/
def LineUnit.rested (l : LineUnit) : Bool := decide (l.idleNeeded ≤ l.idleClocks)

/-- The line is at the idle level and can leave it for so many clocks (R32, log 8). -/
def State.activityDue (s : State) (clocks : Nat) : Bool := decide (s.lineActive = 0) && decide (clocks ≠ 0)

/-- The slot whose frame is in flight (R100). -/
def State.slotInFlight (s : State) : Option SlotId := s.sched.snapshot.map (·.slot)

/-- A JOIN made ready, for its inviter (Table 4-1). -/
def State.joinReady (s : State) : Option Addr :=
  match s.line.waiting with
  | some w => match w.kind with
    | .join a => some a
    | .opportunity => none
    | .claimed => none
    | .token => none
  | none => none

/-! ### Start times and turns at the slot table -/

/-- The kind of the waiting request. -/
def State.waitKind (s : State) : Option WaitKind := s.line.waiting.map (·.kind)

/-- The request's start time has come: its gap has passed (R37). -/
def Waiting.due (divider : Nat) (w : Waiting) : Bool := decide (w.gap * divider ≤ w.elapsed)

/-- A waiting request may act: its start time has come, the receiver is not assembling and the part not sending (R36). -/
def State.startTimeCome (s : State) : Bool :=
  s.line.waiting.any (Waiting.due s.line.divider) && decide (s.line.receiver ≠ .assembling) && !s.transmitting

/-- A find-and-snapshot claim stands at the slot table controller, to be taken (R92). -/
def State.snapshotDue (s : State) : Bool := decide (s.waitKind = some .claimed) && !s.transmitting

/-- It is a claim's turn at the slot table controller: it is the oldest waiting, and no find-and-snapshot goes ahead
(R9). -/
def State.turn (s : State) (c : Claim) : Bool := decide (s.claims.head? = some c) && !s.snapshotDue

/-! ### Register values -/

/-- The engine-state code of STATUS (R169). -/
def EngineState.code : EngineState → Nat
  | .stopped => 0 | .running => 1 | .faulted => 2

/-- The fault code of STATUS (R169). -/
def FaultCode.code : FaultCode → Nat
  | .none => 0 | .badConfig _ => 1 | .cqRead => 2 | .eqWrite => 3

/-- The code of a BAD_CONFIG cause (R169). -/
def ConfigCause.code : ConfigCause → Nat
  | .cmdBase => 1 | .cmdSize => 2 | .cmdIndex => 3 | .evtBase => 4 | .evtSize => 5 | .evtIndex => 6

/-- The BAD_CONFIG cause of STATUS: none unless the fault code is BAD_CONFIG (R164). -/
def FaultCode.causeCode : FaultCode → Nat
  | .none => 0 | .badConfig c => c.code | .cqRead => 0 | .eqWrite => 0

/-- CONTROL as it reads: the run bit; the reset bits read 0 (R162). -/
def State.controlWord (s : State) : Word := BitVec.ofNat 32 s.engine.run.toNat

/-- STATUS as it reads (R164, Table 10-1). -/
def State.statusWord (s : State) : Word :=
  BitVec.ofNat 32 (s.engine.state.code + 16 * s.engine.fault.code + 256 * s.engine.fault.causeCode
    + 4096 * s.ring.condition.code.toNat + 65536 * s.regs.indexRefused.toNat)

/-- The register at an offset of Table 9-1, or none at an unassigned offset (R160). -/
def State.registerAt (s : State) (offset : Nat) : Option Word :=
  match offset with
  | 0x00 => some Config.ident
  | 0x04 => some s.controlWord
  | 0x08 => some s.statusWord
  | 0x10 => some s.regs.cmdBaseLo
  | 0x14 => some s.regs.cmdBaseHi
  | 0x18 => some (s.regs.cmdSize.setWidth 32)
  | 0x1C => some (BitVec.ofNat 32 s.regs.cmdTail)
  | 0x20 => some (BitVec.ofNat 32 s.engine.head)
  | 0x28 => some s.regs.evtBaseLo
  | 0x2C => some s.regs.evtBaseHi
  | 0x30 => some (s.regs.evtSize.setWidth 32)
  | 0x34 => some (BitVec.ofNat 32 s.regs.evtHead)
  | 0x38 => some (BitVec.ofNat 32 s.events.tail)
  | 0x3C => some (BitVec.ofNat 32 s.regs.notifyLevel)
  | 0x40 => some (BitVec.ofNat 32 s.regs.notifyQuiet)
  | _ => none

/-- How many bytes an access addresses. -/
def AccessWidth.bytes : AccessWidth → Nat
  | .byte => 1 | .half => 2 | .word => 4

/-- What a register read returns (R160): 0 at an unassigned or misaligned offset, the addressed low bytes for a narrow
aligned read, and no answer while RESET is low (R168). A misaligned narrow read is taken by the misaligned sentence of
R160 (DEDUCED, log 17); that a read at an offset of 128 or more, outside the window, returns 0 is the model's choice
(log 31). -/
def State.readRegister (s : State) (offset : Nat) (width : AccessWidth) : Option Word :=
  if s.resetLow then none
  else if offset % 4 ≠ 0 then some 0
  else some (((s.registerAt offset).getD 0) &&& BitVec.ofNat 32 (2 ^ (8 * AccessWidth.bytes width) - 1))

end Sys2Proof.Machine
end

