-- ==== Sys2Proof/Machine/Ops.lean ====
section
/-! DEFINITION. The named operations every meaning is built from: block updates, the slot table controller's
operations, the notice list, the claims waiting at the slot table, the open command list and its reports, filing, the
event writer's look for a notice, and the timers. -/

namespace Sys2Proof.Machine

/-! ### Block updates -/

/-- The state with other slot records. -/
def State.withSlots (s : State) (v : Vector Slot 64) : State := { s with slots := v }

/-- The state with another filing counter. -/
def State.withFilingCounter (s : State) (n : Half) : State := { s with filingCounter := n }

/-- The state with other claims waiting at the slot table controller. -/
def State.withClaims (s : State) (l : List Claim) : State := { s with claims := l }

/-- The state with another filing request on its way. -/
def State.withFiling (s : State) (r : Option FilingRequest) : State := { s with filing := r }

/-- The state with another line unit. -/
def State.withLine (s : State) (l : LineUnit) : State := { s with line := l }

/-- The state with another ring controller. -/
def State.withRing (s : State) (r : Ring) : State := { s with ring := r }

/-- The state with another send scheduler. -/
def State.withSched (s : State) (c : Scheduler) : State := { s with sched := c }

/-- The state with another queue engine. -/
def State.withEngine (s : State) (e : Engine) : State := { s with engine := e }

/-- The state with another event writer. -/
def State.withEvents (s : State) (e : EventWriter) : State := { s with events := e }

/-- The state with other registers. -/
def State.withRegs (s : State) (g : Registers) : State := { s with regs := g }

/-- The state with the line at the active level for so many clocks yet (R32). -/
def State.withLineActive (s : State) (n : Nat) : State := { s with lineActive := n }

/-- The state after a bus-master access has been given its number (log 7). -/
def State.countAccess (s : State) : State := { s with accessCount := s.accessCount + 1 }

/-- A claim reaches the slot table controller, behind those waiting (R9). -/
def State.addClaim (s : State) (c : Claim) : State := s.withClaims (s.claims ++ [c])

/-- A claim no longer waits: it has been taken (R9). -/
def State.dropClaim (s : State) (c : Claim) : State := s.withClaims (s.claims.erase c)

/-- The state with slot `k` replaced. -/
def State.withSlot (s : State) (k : SlotId) (x : Slot) : State := s.withSlots (s.slots.set k x)

/-- The state with another open command list. -/
def State.withOpenList (s : State) (l : List Entry) : State := s.withEngine { s.engine with openList := l }

/-- The state with another notice list. -/
def State.withNoticeList (s : State) (l : List SlotId) : State := s.withEvents { s.events with noticeList := l }

/-- The state with the sticky index-refused flag set (R164). -/
def State.setRefused (s : State) : State := s.withRegs { s.regs with indexRefused := true }

/-! ### Slot fields -/

/-- Sixteen data bytes: the first `length` of `bytes`, zero beyond (R2). -/
def padData (bytes : List Byte) (length : Nat) : Vector Byte 16 :=
  Vector.ofFn fun i => if i.val < length then bytes.getD i.val 0 else 0

/-- A slot's key matches a frame's key (R46). -/
def Slot.matchesKey (x : Slot) (k : Key) : Bool :=
  if x.maskInUse then decide (x.key &&& x.mask = k &&& x.mask) else decide (x.key = k)

/-- A locked depot member (R7). -/
def Slot.locked (x : Slot) : Bool := x.inService && !x.depotEnd && x.fresh

/-- The four conditions of a DATA filing's scan (R47). -/
def Slot.takesData (k : Key) (x : Slot) : Bool :=
  x.inService && decide (x.role = .subscribe) && x.matchesKey k && !x.locked

/-- The three conditions of a SOLICIT filing's scan (R54). -/
def Slot.takesSolicit (k : Key) (x : Slot) : Bool :=
  x.inService && decide (x.role = .publish) && x.matchesKey k

/-- The first slot, from slot 0 upward, that meets a condition (R47, R54). -/
def firstSlot (p : Slot → Bool) (v : Vector Slot 64) : Option SlotId :=
  (List.finRange 64).find? fun k => p v[k]

/-- The slots in the order of a scan from the cursor: c to 63, then 0 to c − 1 (R16). -/
def scanOrder (c : SlotId) : List SlotId := (List.finRange 64).map fun d => c + d

/-- The slot find-and-snapshot stops at: the first in service with send pending (R16). -/
def findPending (c : SlotId) (v : Vector Slot 64) : Option SlotId :=
  (scanOrder c).find? fun k => v[k].inService && v[k].sendPending

/-- A slot after fresh and overrun are cleared, by consume or clear status (R12, R13). -/
def Slot.consumed (x : Slot) : Slot := { x with fresh := false, overrun := false }

/-- A slot taken out of service (R17). -/
def Slot.closed (x : Slot) : Slot :=
  { x with inService := false, fresh := false, overrun := false, sendPending := false }

/-- A slot with a frame written into it by a DATA filing (R48, R49): `number` is the filing number it records. -/
def Slot.filed (x : Slot) (source : Addr) (key : Key) (payload : List Byte) (number : Half) : Slot :=
  { x with
    key := key
    length := payload.length
    data := padData payload payload.length
    source := some source
    filingNumber := some number
    fresh := true
    overrun := x.fresh
    sendPending := false }

/-- A slot that discards a frame under keep first (R50). -/
def Slot.discarded (x : Slot) : Slot := { x with overrun := true, sendPending := false }

/-! ### The notice list -/

/-- Slot `k` joins the back of the notice list, unless it is in it (R57). -/
def joinNotice (k : SlotId) (l : List SlotId) : List SlotId := if k ∈ l then l else l ++ [k]

/-- Slot `k` leaves the notice list (R9, R57). -/
def leaveNotice (k : SlotId) (l : List SlotId) : List SlotId := l.filter fun j => decide (j ≠ k)

/-- A filing calls for a notice for slot `k` (R57). -/
def State.callNotice (s : State) (k : SlotId) : State := s.withNoticeList (joinNotice k s.events.noticeList)

/-- Slot `k` is removed from the notice list (R9). -/
def State.dropNotice (s : State) (k : SlotId) : State := s.withNoticeList (leaveNotice k s.events.noticeList)

/-! ### The open command list -/

/-- The byte of a command code (Table 7-1). -/
def CommandCode.byte : CommandCode → Byte
  | .nop => 0x01 | .store => 0x02 | .fetch => 0x03 | .send => 0x04 | .cancel => 0x05 | .tableClear => 0x06
  | .linkStart => 0x10 | .linkStop => 0x11 | .mapRead => 0x12 | .barrier => 0x20

/-- An entry waits with a given command code. A waiting SEND is a confirm-SEND (R116). -/
def Entry.waitsAs (e : Entry) (c : CommandCode) : Bool := decide (e.state = .waiting) && decide (e.code = c.byte)

/-- A waiting confirm-SEND on slot `k` (R117). -/
def Entry.waitsOn (e : Entry) (k : SlotId) : Bool := e.waitsAs .send && decide (e.slot = some k)

/-- An attached confirm-SEND on slot `k` (R117). -/
def Entry.attachedOn (e : Entry) (k : SlotId) : Bool := decide (e.state = .attached) && decide (e.slot = some k)

/-- The entry of the take under way or of the record being executed (R115). -/
def Entry.isTaking (e : Entry) : Bool := decide (e.state = .taking)

/-- The completion of a done entry (R118). -/
def Entry.completion (e : Entry) : Option Completion :=
  match e.state with
  | .done c => some c
  | .taking => none
  | .waiting => none
  | .attached => none

/-- The entry counts as long (R116). -/
def Entry.isLong (e : Entry) : Bool := decide (e.kind = .long)

/-- The entry done with a status and no result. -/
def Entry.finish (e : Entry) (st : Status) : Entry := { e with state := .done ⟨st, .none⟩ }

/-- The open long entries (R116). -/
def longCount (l : List Entry) : Nat := l.countP Entry.isLong

/-- Every entry that meets `p` becomes done with status `st` (R117). -/
def finishWhere (p : Entry → Bool) (st : Status) (l : List Entry) : List Entry :=
  l.map fun e => if p e then e.finish st else e

/-- "An entry has been removed": a waiting BARRIER with no earlier entry left becomes done, OK (R117). -/
def releaseBarrier : List Entry → List Entry
  | [] => []
  | e :: rest => (if e.waitsAs .barrier then e.finish .ok else e) :: rest

/-- Frame started for slot `k` (R95, R117). -/
def State.reportFrameStarted (s : State) (k : SlotId) : State :=
  s.withOpenList (s.engine.openList.map fun e => if e.waitsOn k then { e with state := .attached } else e)

/-- Frame sent for slot `k` (R96, R117). -/
def State.reportFrameSent (s : State) (k : SlotId) : State :=
  s.withOpenList (finishWhere (·.attachedOn k) .sent s.engine.openList)

/-- Send pending cleared on slot `k` by CANCEL (R15, R117). -/
def State.reportCleared (s : State) (k : SlotId) : State :=
  s.withOpenList (finishWhere (·.waitsOn k) .cancelled s.engine.openList)

/-- Slot `k` closed (R17, R117). -/
def State.reportClosed (s : State) (k : SlotId) : State :=
  s.withOpenList (finishWhere (·.waitsOn k) .slotClosed s.engine.openList)

/-- Every slot closed: each waiting confirm-SEND is done SLOT_CLOSED (R18, R138). -/
def State.reportTableClosed (s : State) : State :=
  s.withOpenList (finishWhere (·.waitsAs .send) .slotClosed s.engine.openList)

/-- The link has reached WITHDRAWN (R83, R117). -/
def State.reportWithdrawn (s : State) : State :=
  s.withOpenList (finishWhere (·.waitsAs .send) .linkDown s.engine.openList)

/-- The link has reached OFF (R87, R117). -/
def State.reportOff (s : State) : State :=
  s.withOpenList (finishWhere (·.waitsAs .linkStop) .ok (finishWhere (·.waitsAs .send) .linkDown s.engine.openList))

/-- The entry in state taking becomes done with a kind and a completion. -/
def finishTaking (kind : EntryKind) (c : Completion) (l : List Entry) : List Entry :=
  l.map fun e => if e.isTaking then { e with kind := kind, state := .done c } else e

/-- The entry in state taking starts a long wait (R116). -/
def startWaiting (l : List Entry) : List Entry :=
  l.map fun e => if e.isTaking then { e with kind := .long, state := .waiting } else e

/-- The executing command is done: its entry gets its kind and completion, its execution step has ended, and its claim
at the slot table, if it had one, has been taken (R9, R116, R125). -/
def State.finishCommand (s : State) (kind : EntryKind) (c : Completion) : State :=
  (s.withEngine { s.engine with
    openList := finishTaking kind c s.engine.openList, checked := none, mapReads := MapReads.empty }).dropClaim .command

/-- The executing command is done, immediate, with a status and no result. -/
def State.finishStatus (s : State) (st : Status) : State := s.finishCommand .immediate ⟨st, .none⟩

/-- The executing long command starts its wait, its execution step has ended, and its claim, if it had one, has been
taken (R9, R116). -/
def State.waitCommand (s : State) : State :=
  (s.withEngine { s.engine with
    openList := startWaiting s.engine.openList, checked := none, mapReads := MapReads.empty }).dropClaim .command

/-- Fifteen long entries are open already (R116). -/
def State.longFull (s : State) : Bool := decide (Config.maxLong ≤ longCount s.engine.openList)

/-- A take ends without a record: its entry is removed and its credit released (R120, R121). -/
def Engine.dropTaking (e : Engine) : Engine :=
  { e with
    openList := releaseBarrier (e.openList.filter fun x => !x.isTaking)
    credits := e.credits - 1
    cmdRead := none }

/-- The entry at a position is removed, its completion written, and its credit released (R118). -/
def Engine.removeEntry (e : Engine) (position : Nat) : Engine :=
  { e with openList := releaseBarrier (e.openList.eraseIdx position), credits := e.credits - 1 }

/-- The position of the oldest done entry: the one accepted first among those done (R118, R148). R118 offers done
entries in acceptance order and also says that completions of long commands are written in the order their ending
reports came; where the two differ the model takes acceptance order, its own choice (log 26). -/
def oldestDone (l : List Entry) : Option Nat := l.findIdx? fun e => e.completion.isSome

/-! ### Slot table operations -/

/-- A STORE is refused SLOT_LIVE: SETUP with in service = yes on a slot in service (R10). -/
def StoreOperands.slotLive (o : StoreOperands) (x : Slot) : Bool :=
  match o.setup with
  | some g => g.inService && x.inService
  | none => false

/-- In service as the STORE would leave it (R12). -/
def StoreOperands.leavesInService (o : StoreOperands) (x : Slot) : Bool :=
  match o.setup with
  | some g => g.inService
  | none => x.inService

/-- The refusal of a STORE, against the slot as it stands and as the write would leave it (R10, R12, R130). -/
def StoreOperands.refusal (o : StoreOperands) (x : Slot) : Option Status :=
  if o.slotLive x then some .slotLive
  else if o.sendAfter && !o.leavesInService x then some .notInService
  else none

/-- The STORE takes the slot out of service (R10, R17). -/
def StoreOperands.closes (o : StoreOperands) (x : Slot) : Bool :=
  match o.setup with
  | some g => !g.inService && x.inService
  | none => false

/-- A slot with the SETUP fields written; entering service makes the filing record absent and the status no, leaving
service clears the status (R10, R17). -/
def Slot.setUp (x : Slot) (g : SetupOperands) : Slot :=
  let y := { x with
    inService := g.inService, role := g.role, key := g.key, mask := g.mask
    maskInUse := g.maskInUse, depotEnd := g.depotEnd }
  if g.inService then
    { y with source := none, filingNumber := none, fresh := false, overrun := false, sendPending := false }
  else y.closed

/-- A slot with the BEHAVIOUR fields written (R11). -/
def Slot.setBehaviour (x : Slot) (g : BehaviourOperands) : Slot :=
  { x with answer := g.answer, notify := g.notify, keepFirst := g.keepFirst }

/-- A slot with the CONTENT fields written (R2, R11). -/
def Slot.setContent (x : Slot) (g : ContentOperands) : Slot :=
  { x with length := g.length, data := padData g.bytes g.length }

/-- The slot a STORE that is not refused leaves: SETUP, BEHAVIOUR, CONTENT, clear status, send after, in this order
(R130). -/
def StoreOperands.apply (o : StoreOperands) (x : Slot) : Slot :=
  let x1 := match o.setup with | some g => x.setUp g | none => x
  let x2 := match o.behaviour with | some g => x1.setBehaviour g | none => x1
  let x3 := match o.content with | some g => x2.setContent g | none => x2
  let x4 := if o.clearStatus then x3.consumed else x3
  if o.sendAfter then { x4 with sendPending := true } else x4

/-- The write operation of a STORE that is not refused, with what it hands to the event writer and the queue engine
(R9, R130). -/
def State.storeSlot (s : State) (o : StoreOperands) : State :=
  let x := s.slots[o.slot]
  let s1 := s.withSlot o.slot (o.apply x)
  let s2 := if o.closes x || o.clearStatus then s1.dropNotice o.slot else s1
  if o.closes x then s2.reportClosed o.slot else s2

/-- The consume of a read (R13). -/
def State.consumeSlot (s : State) (k : SlotId) : State := (s.withSlot k s.slots[k].consumed).dropNotice k

/-- Setting send pending on a slot in service (R14). -/
def State.setPending (s : State) (k : SlotId) : State := s.withSlot k { s.slots[k] with sendPending := true }

/-- Clearing send pending, with its report to the queue engine (R15). -/
def State.clearPending (s : State) (k : SlotId) : State :=
  (s.withSlot k { s.slots[k] with sendPending := false }).reportCleared k

/-- Clearing the table: every slot out of service, the notice list empty, the closing reports made (R18). -/
def State.clearTable (s : State) : State :=
  ((s.withSlots (s.slots.map Slot.closed)).withNoticeList []).reportTableClosed

/-- A DATA filing (R47 to R53). -/
def State.fileData (s : State) (source : Addr) (key : Key) (payload : List Byte) : State :=
  match firstSlot (Slot.takesData key) s.slots with
  | none => s
  | some k =>
    let x := s.slots[k]
    let s1 :=
      if x.fresh && x.keepFirst then s.withSlot k x.discarded
      else (s.withSlot k (x.filed source key payload (s.filingCounter + 1))).withFilingCounter (s.filingCounter + 1)
    if x.notify then s1.callNotice k else s1

/-- A SOLICIT filing (R54 to R56). -/
def State.fileSolicit (s : State) (key : Key) : State :=
  match firstSlot (Slot.takesSolicit key) s.slots with
  | none => s
  | some k =>
    if s.slots[k].answer then s.setPending k
    else if s.slots[k].notify then s.callNotice k
    else s

/-- A filing request is handed on, and its claim reaches the slot table controller (R9, R45). -/
def State.handOn (s : State) (r : FilingRequest) : State := (s.withFiling (some r)).addClaim .filing

/-! ### The event writer's look for a notice -/

/-- A completion can be written: a done entry, and the engine RUNNING or STOPPED (R148). -/
def State.completionReady (s : State) : Bool :=
  (oldestDone s.engine.openList).isSome && decide (s.engine.state ≠ .faulted)

/-- A notice has room: RUNNING, and free entries exceed reserved credits (R148). -/
def State.noticeRoom (s : State) : Bool :=
  decide (s.engine.state = .running) && decide (s.engine.credits < s.freeEntries)

/-- The link notice can be written (R148). -/
def State.linkNoticeReady (s : State) : Bool := s.events.linkNotice.isSome && s.noticeRoom

/-- A slot notice's write may begin: none is in flight, the list is not empty, there is room, and neither a completion
nor the link notice is ready (R148). -/
def State.slotNoticeReady (s : State) : Bool :=
  s.events.write.isNone && !s.events.noticeList.isEmpty && s.noticeRoom && !s.completionReady && !s.linkNoticeReady

/-- The event writer looks for a slot notice to write: when one is ready it claims a read for notice, unless its claim
waits already (R148, R152, log 14). -/
def State.lookForNotice (s : State) : State :=
  if s.slotNoticeReady && !s.claims.contains .notice then s.addClaim .notice else s

/-! ### Timers -/

/-- A timer held from an activity start (R39, R40, R41). -/
def Timer.hold : Timer → Timer
  | .running c => .held c
  | .stopped => .stopped
  | .held c => .held c

/-- A timer let run on. -/
def Timer.release : Timer → Timer
  | .held c => .running c
  | .stopped => .stopped
  | .running c => .running c

/-- The timer expires: it runs, neither stopped nor held, and has counted to its limit (R39, R40, R41). -/
def Timer.expired (limit : Nat) : Timer → Bool
  | .running c => decide (limit ≤ c)
  | .stopped => false
  | .held _ => false

/-- The timer is stopped. -/
def Timer.isStopped : Timer → Bool
  | .stopped => true
  | .running _ => false
  | .held _ => false

/-- One reference clock: a running timer counts, and stays at its limit until its expiry is taken (log 2). -/
def Timer.tick (limit : Nat) : Timer → Timer
  | .running c => .running (if c < limit then c + 1 else c)
  | .stopped => .stopped
  | .held c => .held c

/-- The silence timer restarts, in the states that run ring timers (R40, R83). -/
def Ring.restartSilence (r : Ring) : Ring :=
  if r.link.runsTimers then { r with silence := .running 0 } else r

end Sys2Proof.Machine
end

