-- ==== Sys2Proof/Machine/Operands.lean ====
section
/-! DEFINITION. The 64-byte command record (R113, R114, R170), read and written, and the 32-byte event record (R171). -/

namespace Sys2Proof.Machine

/-! ### Reading a command record -/

/-- Byte `i` of a record. -/
def recByte (r : List Byte) (i : Nat) : Byte := r.getD i 0

/-- Halfword `i` of a record, little-endian (R114). -/
def recHalf (r : List Byte) (i : Nat) : Half := recByte r (2 * i + 1) ++ recByte r (2 * i)

/-- The halfwords the check word covers: 0 and 2 to 31 (R114). -/
def checkedHalves : List Nat := 0 :: (List.range 30).map (· + 2)

/-- The check word a record should have (R114). -/
def checkWordOf (r : List Byte) : Half :=
  (checkedHalves.map (recHalf r)).foldl (· ^^^ ·) 0 ^^^ Config.checkConstant

/-- The check word is correct (R114). -/
def checkCorrect (r : List Byte) : Bool := decide (checkWordOf r = recHalf r 1)

/-- The record's phase: bit 0 of byte 1 (Table 10-2). -/
def recPhase (r : List Byte) : Bool := (recByte r 1).getLsbD 0

/-- The record's tag (Table 10-2). -/
def recTag (r : List Byte) : Half := recHalf r 2

/-- The record's options halfword (Table 10-2). -/
def recOptions (r : List Byte) : Half := recHalf r 3

/-- A little-endian 24-bit field (Table 10-3). -/
def recKey (r : List Byte) (i : Nat) : Key := recByte r (i + 2) ++ recByte r (i + 1) ++ recByte r i

/-- The command code of a byte, if Table 7-1 has it (R113 check 3). -/
def commandCode (b : Byte) : Option CommandCode :=
  [CommandCode.nop, .store, .fetch, .send, .cancel, .tableClear, .linkStart, .linkStop, .mapRead, .barrier].find?
    fun c => decide (c.byte = b)

/-- The commands that name a slot (Table 7-1). -/
def CommandCode.namesSlot : CommandCode → Bool
  | .store => true | .fetch => true | .send => true | .cancel => true
  | .nop => false | .tableClear => false | .linkStart => false | .linkStop => false | .mapRead => false | .barrier => false

/-- How many option bits a command defines, from bit 0 up (Table 7-1, R170). -/
def CommandCode.optionBits : CommandCode → Nat
  | .store => 5 | .fetch => 1 | .send => 1 | .linkStart => 2
  | .nop => 0 | .cancel => 0 | .tableClear => 0 | .linkStop => 0 | .mapRead => 0 | .barrier => 0

/-- The SETUP operands, when they hold defined values (R129, Table 10-3). -/
def readSetup (r : List Byte) : Option SetupOperands :=
  let flags := recByte r 16
  let role := recByte r 17
  if 8 ≤ flags.toNat ∨ 2 ≤ role.toNat ∨ recByte r 23 ≠ 0 ∨ recByte r 27 ≠ 0 then none
  else some {
    inService := flags.getLsbD 0
    maskInUse := flags.getLsbD 1
    depotEnd := flags.getLsbD 2
    role := if role = 1 then .publish else .subscribe
    key := recKey r 20
    mask := recKey r 24 }

/-- The BEHAVIOUR operands, when they hold defined values (R129, Table 10-3). -/
def readBehaviour (r : List Byte) : Option BehaviourOperands :=
  let flags := recByte r 18
  if 8 ≤ flags.toNat then none
  else some { answer := flags.getLsbD 0, notify := flags.getLsbD 1, keepFirst := flags.getLsbD 2 }

/-- The CONTENT operands, when the length is at most 16 (R129, Table 10-3). -/
def readContent (r : List Byte) : Option ContentOperands :=
  let length := (recByte r 19).toNat
  if 16 < length then none
  else some { length := length, bytes := (List.range 16).map fun i => recByte r (32 + i) }

/-- The operands of a group that is examined only when it is selected: none refuses the record (R129). -/
def whenSelected {α : Type} (selected : Bool) (group : Option α) : Option (Option α) :=
  if selected then group.map some else some none

/-- The slot number of a record that names one, from its slot byte. -/
def recSlot (r : List Byte) : SlotId := Fin.ofNat 64 (recByte r 8).toNat

/-- The operands of a STORE record (R129). -/
def readStore (r : List Byte) : Option StoreOperands :=
  let opts := recOptions r
  match whenSelected (opts.getLsbD 0) (readSetup r), whenSelected (opts.getLsbD 1) (readBehaviour r),
      whenSelected (opts.getLsbD 2) (readContent r) with
  | some setup, some behaviour, some content =>
    some { slot := recSlot r, setup := setup, behaviour := behaviour, content := content
           clearStatus := opts.getLsbD 3, sendAfter := opts.getLsbD 4 }
  | _, _, _ => none

/-- The options of a LINK_START record, when every operand lies in its range (R139, Table 10-4). -/
def readLinkStart (r : List Byte) : Option LinkOptions :=
  let own := (recByte r 16).toNat
  let divider := (recHalf r 9).toNat
  let budget := (recByte r 20).toNat
  if 31 < own ∨ divider < 10 ∨ 320 < divider ∨ budget < 1 ∨ 15 < budget then none
  else some {
    ownAddress := BitVec.ofNat 5 own
    divider := divider
    budget := budget
    inviteInterval := (recByte r 21).toNat
    listenOnly := (recOptions r).getLsbD 0
    selfFiling := (recOptions r).getLsbD 1 }

/-- The command of a record with a known code, when its operands hold defined values (R113 check 5). -/
def readOperands (c : CommandCode) (r : List Byte) : Option Command :=
  match c with
  | .nop => some .nop
  | .store => (readStore r).map .store
  | .fetch => some (.fetch (recSlot r) ((recOptions r).getLsbD 0))
  | .send => some (.send (recSlot r) ((recOptions r).getLsbD 0))
  | .cancel => some (.cancel (recSlot r))
  | .tableClear => some .tableClear
  | .linkStart => (readLinkStart r).map .linkStart
  | .linkStop => some .linkStop
  | .mapRead => some .mapRead
  | .barrier => some .barrier

/-- The checks of a taken record, in the order of R113, against the phase expected of it. -/
def checkRecord (expected : Bool) (r : List Byte) : Except Status Command :=
  if recPhase r ≠ expected then .error .stale
  else if !checkCorrect r then .error .badCheck
  else
    match commandCode (recByte r 0) with
    | none => .error .badCommand
    | some c =>
      if c.namesSlot && decide (63 < (recByte r 8).toNat) then .error .badSlot
      else if 2 ^ c.optionBits ≤ (recOptions r).toNat then .error .badValue
      else
        match readOperands c r with
        | none => .error .badValue
        | some command => .ok command

/-- The code of a command. -/
def Command.code : Command → CommandCode
  | .nop => .nop
  | .store _ => .store
  | .fetch _ _ => .fetch
  | .send _ _ => .send
  | .cancel _ => .cancel
  | .tableClear => .tableClear
  | .linkStart _ => .linkStart
  | .linkStop => .linkStop
  | .mapRead => .mapRead
  | .barrier => .barrier

/-- The slot a command names (R115). -/
def Command.slot : Command → Option SlotId
  | .store o => some o.slot
  | .fetch k _ => some k
  | .send k _ => some k
  | .cancel k => some k
  | .nop => none
  | .tableClear => none
  | .linkStart _ => none
  | .linkStop => none
  | .mapRead => none
  | .barrier => none

/-- The commands that do slot work, by an operation of the slot table controller (Table 1-5, R9). -/
def Command.usesTable : Command → Bool
  | .store _ => true
  | .fetch _ _ => true
  | .send _ _ => true
  | .cancel _ => true
  | .tableClear => true
  | .nop => false
  | .linkStart _ => false
  | .linkStop => false
  | .mapRead => false
  | .barrier => false

/-! ### Writing a command record, as the host does (section 6.1.1) -/

/-- The byte of three flags in bits 0 to 2 and zero above. -/
def flagByte (b0 b1 b2 : Bool) : Byte := BitVec.ofNat 8 (b0.toNat + 2 * b1.toNat + 4 * b2.toNat)

/-- The low byte of a halfword. -/
def lowByte (h : Half) : Byte := h.extractLsb' 0 8

/-- The high byte of a halfword. -/
def highByte (h : Half) : Byte := h.extractLsb' 8 8

/-- The three bytes of a key, low byte first (R171). -/
def keyBytes (k : Key) : List Byte := [k.extractLsb' 0 8, k.extractLsb' 8 8, k.extractLsb' 16 8]

/-- The options halfword of a command (Tables 10-3 and 10-4). -/
def Command.options : Command → Half
  | .store o => BitVec.ofNat 16 (o.setup.isSome.toNat + 2 * o.behaviour.isSome.toNat + 4 * o.content.isSome.toNat
      + 8 * o.clearStatus.toNat + 16 * o.sendAfter.toNat)
  | .fetch _ consume => BitVec.ofNat 16 consume.toNat
  | .send _ confirm => BitVec.ofNat 16 confirm.toNat
  | .linkStart o => BitVec.ofNat 16 (o.listenOnly.toNat + 2 * o.selfFiling.toNat)
  | .nop => 0
  | .cancel _ => 0
  | .tableClear => 0
  | .linkStop => 0
  | .mapRead => 0
  | .barrier => 0

/-- Bytes 16 to 63 of a STORE record (Table 10-3). -/
def StoreOperands.bytes (o : StoreOperands) : List Byte :=
  let setup := o.setup.getD ⟨false, .subscribe, 0, 0, false, false⟩
  let behaviour := o.behaviour.getD ⟨false, false, false⟩
  let content := o.content.getD ⟨0, []⟩
  [flagByte setup.inService setup.maskInUse setup.depotEnd, if setup.role = .publish then 1 else 0,
    flagByte behaviour.answer behaviour.notify behaviour.keepFirst, BitVec.ofNat 8 content.length]
  ++ keyBytes setup.key ++ [0] ++ keyBytes setup.mask ++ [0] ++ List.replicate 4 0
  ++ (List.range 16).map (fun i => content.bytes.getD i 0) ++ List.replicate 16 0

/-- Bytes 16 to 63 of a LINK_START record (Table 10-4). -/
def LinkOptions.bytes (o : LinkOptions) : List Byte :=
  let divider := BitVec.ofNat 16 o.divider
  [o.ownAddress.setWidth 8, 0, lowByte divider, highByte divider, BitVec.ofNat 8 o.budget,
    BitVec.ofNat 8 o.inviteInterval] ++ List.replicate 42 0

/-- Bytes 16 to 63 of a record: the operands of its command. -/
def Command.operandBytes : Command → List Byte
  | .store o => o.bytes
  | .linkStart o => o.bytes
  | .fetch _ _ => List.replicate 48 0
  | .send _ _ => List.replicate 48 0
  | .nop => List.replicate 48 0
  | .cancel _ => List.replicate 48 0
  | .tableClear => List.replicate 48 0
  | .linkStop => List.replicate 48 0
  | .mapRead => List.replicate 48 0
  | .barrier => List.replicate 48 0

/-- The 64 bytes of a record with a given check word (Table 10-2). -/
def Command.bytesWith (c : Command) (phase : Bool) (tag check : Half) : List Byte :=
  [c.code.byte, BitVec.ofNat 8 phase.toNat, lowByte check, highByte check, lowByte tag, highByte tag,
    lowByte c.options, highByte c.options, BitVec.ofNat 8 ((c.slot.map Fin.val).getD 0)]
  ++ List.replicate 7 0 ++ c.operandBytes

/-- The record the host writes for a command: its phase, its tag, and the check word of R114. -/
def Command.record (c : Command) (phase : Bool) (tag : Half) : List Byte :=
  c.bytesWith phase tag (checkWordOf (c.bytesWith phase tag 0))

/-- A command a record can hold: a STORE's length at most 16 with 16 data bytes, a LINK_START's operands in their
ranges (R129, R139). -/
def Command.wf : Command → Bool
  | .store o =>
    match o.content with
    | some g => decide (g.length ≤ 16) && decide (g.bytes.length = 16)
    | none => true
  | .linkStart o =>
    decide (10 ≤ o.divider) && decide (o.divider ≤ 320) && decide (1 ≤ o.budget) && decide (o.budget ≤ 15)
      && decide (o.inviteInterval ≤ 255)
  | .fetch _ _ => true
  | .send _ _ => true
  | .nop => true
  | .cancel _ => true
  | .tableClear => true
  | .linkStop => true
  | .mapRead => true
  | .barrier => true

/-! ### Event records -/

/-- The phase byte: bit 0, zero above (Table 10-5, R171). -/
def phaseByte (phase : Bool) : Byte := BitVec.ofNat 8 phase.toNat

/-- An address byte: 0xFF marks absence (R171). -/
def addressByte (a : Option Addr) : Byte :=
  match a with
  | some a => a.setWidth 8
  | none => 0xFF

/-- The two bytes of a halfword, low byte first. -/
def halfBytes (h : Half) : List Byte := [lowByte h, highByte h]

/-- The four bytes of the live map, bit n marking address n (Table 10-7). -/
def mapBytes (m : BitVec 32) : List Byte :=
  [m.extractLsb' 0 8, m.extractLsb' 8 8, m.extractLsb' 16 8, m.extractLsb' 24 8]

/-- The flags byte of a FETCH result (Table 10-7). -/
def fetchFlags (x : Slot) : Byte :=
  BitVec.ofNat 8 (x.inService.toNat + 2 * (decide (x.role = .publish)).toNat + 4 * x.fresh.toNat
    + 8 * x.overrun.toNat + 16 * x.sendPending.toNat + 32 * x.filingNumber.isNone.toNat)

/-- Bytes 8 to 31 of a COMPLETION (Table 10-7). -/
def Result.bytes : Result → List Byte
  | .none => List.replicate 24 0
  | .fetch x =>
    [fetchFlags x, addressByte x.source, BitVec.ofNat 8 x.length] ++ keyBytes x.key
      ++ halfBytes (x.filingNumber.getD 0) ++ x.data.toList
  | .cancel before => BitVec.ofNat 8 before.toNat :: List.replicate 23 0
  | .mapRead r filingCounter cursor =>
    [r.link.code, r.condition.code, addressByte r.successor, r.ownAddress.setWidth 8] ++ mapBytes r.liveMap
      ++ halfBytes r.rotation ++ [BitVec.ofNat 8 r.unheard, BitVec.ofNat 8 r.clash.toNat] ++ halfBytes filingCounter
      ++ [BitVec.ofNat 8 cursor.val] ++ List.replicate 9 0

/-- The statuses whose completion carries the result fields of its command (R125). -/
def Status.carriesResult : Status → Bool
  | .ok => true | .sent => true | .tooLate => true
  | .cancelled => false | .slotClosed => false | .linkDown => false | .listFull => false
  | .badCheck => false | .stale => false | .badCommand => false | .badSlot => false | .badValue => false
  | .slotLive => false | .notInService => false | .linkBusy => false

/-- A COMPLETION record (Tables 10-5 and 10-6, R171). -/
def completionRecord (phase : Bool) (e : Entry) (c : Completion) : List Byte :=
  [1, phaseByte phase] ++ halfBytes (BitVec.ofNat 16 e.index) ++ halfBytes e.tag ++ [e.code, c.status.code]
    ++ (if c.status.carriesResult then c.result.bytes else List.replicate 24 0)

/-- A FILED record (Table 10-8, R153). -/
def filedRecord (phase : Bool) (k : SlotId) (x : Slot) : List Byte :=
  [2, phaseByte phase, BitVec.ofNat 8 k.val, BitVec.ofNat 8 (x.overrun.toNat + 2 * x.filingNumber.isNone.toNat),
    addressByte x.source, BitVec.ofNat 8 x.length] ++ keyBytes x.key ++ [0] ++ halfBytes (x.filingNumber.getD 0)
    ++ List.replicate 20 0

/-- A SOLICITED record (Table 10-8, R154). -/
def solicitedRecord (phase : Bool) (k : SlotId) (x : Slot) : List Byte :=
  [3, phaseByte phase, BitVec.ofNat 8 k.val, 0, 0, 0] ++ keyBytes x.key ++ List.replicate 23 0

/-- The notice of a slot: FILED for SUBSCRIBE, SOLICITED for PUBLISH (R152). -/
def noticeRecord (phase : Bool) (k : SlotId) (x : Slot) : List Byte :=
  match x.role with
  | .subscribe => filedRecord phase k x
  | .publish => solicitedRecord phase k x

/-- A LINK record (Table 10-8, R155). -/
def linkRecord (phase : Bool) (n : LinkNotice) (clash : Bool) (rotation : Half) : List Byte :=
  [4, phaseByte phase, n.condition.code, addressByte n.successor, BitVec.ofNat 8 n.changes, BitVec.ofNat 8 clash.toNat]
    ++ halfBytes rotation ++ List.replicate 24 0

/-- The bytes of an event write in the order they go onto the bus, each with its address: byte 1, which holds the
phase, after the other 31 (R165, R171). That they go one by one, and the other 31 in rising order, is the model's
choice (log 29). -/
def EventWrite.busOrder (w : EventWrite) : List (BitVec 64 × Byte) :=
  ((0 :: (List.range 30).map (· + 2)) ++ [1]).map fun i => (w.address + BitVec.ofNat 64 i, recByte w.record i)

end Sys2Proof.Machine
end

