-- ==== Sys2Proof/Machine/Line.lean ====
section
/-! DEFINITION. Frames on the line (chapter 2): their bytes and check, the levels the transmitter shifts out and the
pins show, and what a receiver reports of the levels it takes in. A level is true for idle and false for active. -/

namespace Sys2Proof.Machine

/-- A frame on the line (Table 2-2, Table 10-9). An extension frame has kind code 7 or 0 (R30). -/
inductive Frame
  | data (source : Addr) (key : Key) (payload : List Byte)
  | solicit (source : Addr) (key : Key)
  | token (source destination : Addr)
  | invite (source destination : Addr)
  | join (source destination : Addr)
  | claim (source : Addr)
  | extension (seven : Bool) (source : Addr) (bytes : List Byte)
deriving DecidableEq, Repr

/-- A frame the line can carry: payload at most 16 bytes (R29), extension count at most 19 (R30). -/
def Frame.wf : Frame → Bool
  | .data _ _ payload => decide (payload.length ≤ 16)
  | .extension _ _ bytes => decide (bytes.length ≤ 19)
  | .solicit _ _ => true
  | .token _ _ => true
  | .invite _ _ => true
  | .join _ _ => true
  | .claim _ => true

/-- The first byte: the kind code in bits 7 to 5, the source in bits 4 to 0 (R29). -/
def firstByte (code : BitVec 3) (source : Addr) : Byte := code ++ source

/-- A key on the line, most significant byte first (R29). -/
def lineKey (k : Key) : List Byte := (keyBytes k).reverse

/-- The bytes of a frame before its check, in the order they are sent (Table 10-9). -/
def Frame.body : Frame → List Byte
  | .data source key payload => firstByte 1 source :: (lineKey key ++ BitVec.ofNat 8 payload.length :: payload)
  | .solicit source key => firstByte 2 source :: lineKey key
  | .token source destination => [firstByte 3 source, destination.setWidth 8]
  | .invite source destination => [firstByte 4 source, destination.setWidth 8]
  | .join source destination => [firstByte 5 source, destination.setWidth 8]
  | .claim source => [firstByte 6 source]
  | .extension seven source bytes =>
    firstByte (if seven then 7 else 0) source :: BitVec.ofNat 8 bytes.length :: bytes

/-- One bit of the frame check: the generator is x^16 + x^12 + x^5 + 1 (R31). -/
def crcBit (crc : Half) (bit : Bool) : Half :=
  if crc.getLsbD 15 ^^ bit then (crc <<< 1) ^^^ 0x1021 else crc <<< 1

/-- One byte of the frame check, most significant bit first (R31). -/
def crcByte (crc : Half) (b : Byte) : Half :=
  [b.getLsbD 7, b.getLsbD 6, b.getLsbD 5, b.getLsbD 4, b.getLsbD 3, b.getLsbD 2, b.getLsbD 1, b.getLsbD 0].foldl
    crcBit crc

/-- The frame check of the bytes before it, initial value 0xFFFF (R31). -/
def frameCheck (bytes : List Byte) : Half := bytes.foldl crcByte 0xFFFF

/-- The bytes of a frame, the check last, high byte first (R29, R31). -/
def Frame.bytes (f : Frame) : List Byte :=
  f.body ++ [highByte (frameCheck f.body), lowByte (frameCheck f.body)]

/-- The ten levels of a byte: start bit active, data bits least significant first, stop bit idle (R27). -/
def byteLevels (b : Byte) : List Bool :=
  [false, b.getLsbD 0, b.getLsbD 1, b.getLsbD 2, b.getLsbD 3, b.getLsbD 4, b.getLsbD 5, b.getLsbD 6, b.getLsbD 7, true]

/-- The opening pattern: 12 bt active, 4 bt idle (R28). -/
def openingPattern : List Bool := List.replicate 12 false ++ List.replicate 4 true

/-- The closing pattern: 6 bt active (R28). -/
def closingPattern : List Bool := List.replicate 6 false

/-- The levels of a frame, one for each bit time (R27, R28). -/
def Frame.levels (f : Frame) : List Bool := openingPattern ++ f.bytes.flatMap byteLevels ++ closingPattern

/-- The duration of a frame in bit times: 16, 10 for each byte, 6 (R28). -/
def Frame.duration (f : Frame) : Nat := 16 + 10 * f.bytes.length + 6

/-! ### The frame in flight and the pins -/

/-- The frame a snapshot is sent as, from the part's own address (R94). -/
def Snapshot.frame (x : Snapshot) (own : Addr) : Frame :=
  match x.body with
  | .data length bytes => .data own x.key (bytes.toList.take length)
  | .solicit => .solicit own x.key

/-- The filing request of a self-filed frame, built from its snapshot (R58). -/
def Snapshot.filing (x : Snapshot) (own : Addr) : FilingRequest :=
  match x.body with
  | .data length bytes => .data own x.key (bytes.toList.take length)
  | .solicit => .solicit own x.key

/-- The frame a ring-controller request is sent as. -/
def RingFrame.frame (x : RingFrame) (own : Addr) : Frame :=
  match x.kind with
  | .claim => .claim own
  | .token => .token own x.destination
  | .invite => .invite own x.destination
  | .join => .join own x.destination

/-- The frame of the part on the line, if there is one (R36, R90). -/
def State.frameInFlight (s : State) : Option Frame :=
  match s.sched.snapshot with
  | some x => some (x.frame s.ring.ownAddress)
  | none => s.line.ringFrame.map fun x => x.frame s.ring.ownAddress

/-- The frame in flight has been shifted out, closing pattern and all (R28, R36). -/
def State.frameDone (s : State) : Bool :=
  match s.frameInFlight with
  | some f => decide (f.duration * s.line.divider ≤ s.line.txClocks)
  | none => false

/-- The LDE pin: high while the part sends a frame, low while RESET is low (R27, R168). -/
def State.ldePin (s : State) : Bool := !s.resetLow && s.frameInFlight.isSome

/-- The LTX pin: the level of the present bit time of the frame in flight, high outside a frame and while RESET is low
(R27, R168). -/
def State.ltxPin (s : State) : Bool :=
  s.resetLow ||
  match s.frameInFlight with
  | some f => f.levels.getD (s.line.txClocks / s.line.divider) true
  | none => true

/-! ### Receiving -/

/-- Why a frame is garbled, one for each row of Table 2-4 (R34). -/
inductive GarbleCause
  | openingShort | openingLong | openingIdle | idleMidFrame | stopBit | longLength | highDestination | highCount
  | checkMismatch | closingShort | closingLong
deriving DecidableEq, Repr

/-- What a receiver makes of the levels it has taken in since the activity start: nothing yet, a garbled frame, or a
valid frame (R33, R34). -/
inductive Reception
  | incomplete
  | garbled (cause : GarbleCause)
  | valid (frame : Frame)
deriving DecidableEq, Repr

/-- The outcome of taking one byte: not all there, a failure, or the byte and the levels after it (R34). -/
inductive ByteTaken
  | incomplete
  | failed (cause : GarbleCause)
  | taken (byte : Byte) (rest : List Bool)
deriving DecidableEq, Repr

/-- Eight data bits, least significant first, as a byte (R27). -/
def byteOfBits (b0 b1 b2 b3 b4 b5 b6 b7 : Bool) : Byte :=
  BitVec.ofNat 8 (b0.toNat + 2 * b1.toNat + 4 * b2.toNat + 8 * b3.toNat + 16 * b4.toNat + 32 * b5.toNat
    + 64 * b6.toNat + 128 * b7.toNat)

/-- One byte from the levels: a start bit at the active level, eight data bits, a stop bit at the idle level (R27,
R34). -/
def takeByte : List Bool → ByteTaken
  | [] => .incomplete
  | true :: _ => .failed .idleMidFrame
  | false :: b0 :: b1 :: b2 :: b3 :: b4 :: b5 :: b6 :: b7 :: stop :: rest =>
    if stop then .taken (byteOfBits b0 b1 b2 b3 b4 b5 b6 b7) rest else .failed .stopBit
  | false :: _ => .incomplete

/-- The outcome of taking several bytes. -/
inductive BytesTaken
  | incomplete
  | failed (cause : GarbleCause)
  | taken (bytes : List Byte) (rest : List Bool)
deriving DecidableEq, Repr

/-- `n` bytes, one directly after another (R27). -/
def takeBytes : Nat → List Bool → BytesTaken
  | 0, levels => .taken [] levels
  | n + 1, levels =>
    match takeByte levels with
    | .incomplete => .incomplete
    | .failed c => .failed c
    | .taken b rest =>
      match takeBytes n rest with
      | .incomplete => .incomplete
      | .failed c => .failed c
      | .taken bs rest' => .taken (b :: bs) rest'

/-- The closing pattern: six bit times active, then idle at once (R28, R33, R34). -/
def takeClosing (f : Frame) : Nat → List Bool → Reception
  | _, [] => .incomplete
  | 0, level :: _ => if level then .valid f else .garbled .closingLong
  | n + 1, level :: rest => if level then .garbled .closingShort else takeClosing f n rest

/-- The check and the closing pattern after the bytes of a frame (R31, R33, R34). -/
def takeEndOfFrame (f : Frame) (body : List Byte) (levels : List Bool) : Reception :=
  match takeBytes 2 levels with
  | .incomplete => .incomplete
  | .failed c => .garbled c
  | .taken check rest =>
    if check = [highByte (frameCheck body), lowByte (frameCheck body)] then takeClosing f 6 rest
    else .garbled .checkMismatch

/-- A key of three line bytes, most significant first (R29). -/
def keyOfLine (b : List Byte) : Key := recByte b 0 ++ recByte b 1 ++ recByte b 2

/-- A frame with a destination: TOKEN, INVITE or JOIN (R29, R34). -/
def takeAddressed (make : Addr → Frame) (first : Byte) (levels : List Bool) : Reception :=
  match takeByte levels with
  | .incomplete => .incomplete
  | .failed c => .garbled c
  | .taken d rest =>
    if 31 < d.toNat then .garbled .highDestination
    else takeEndOfFrame (make (d.setWidth 5)) [first, d] rest

/-- A DATA frame after its first byte: key, length, payload (R29, R34). -/
def takeData (first : Byte) (source : Addr) (levels : List Bool) : Reception :=
  match takeBytes 3 levels with
  | .incomplete => .incomplete
  | .failed c => .garbled c
  | .taken key rest =>
    match takeByte rest with
    | .incomplete => .incomplete
    | .failed c => .garbled c
    | .taken length rest' =>
      if 16 < length.toNat then .garbled .longLength
      else
        match takeBytes length.toNat rest' with
        | .incomplete => .incomplete
        | .failed c => .garbled c
        | .taken payload rest'' =>
          takeEndOfFrame (.data source (keyOfLine key) payload) (first :: (key ++ length :: payload)) rest''

/-- A SOLICIT frame after its first byte: key (R29). -/
def takeSolicit (first : Byte) (source : Addr) (levels : List Bool) : Reception :=
  match takeBytes 3 levels with
  | .incomplete => .incomplete
  | .failed c => .garbled c
  | .taken key rest => takeEndOfFrame (.solicit source (keyOfLine key)) (first :: key) rest

/-- An extension frame after its first byte: count and count bytes (R30). -/
def takeExtension (seven : Bool) (first : Byte) (source : Addr) (levels : List Bool) : Reception :=
  match takeByte levels with
  | .incomplete => .incomplete
  | .failed c => .garbled c
  | .taken count rest =>
    if 19 < count.toNat then .garbled .highCount
    else
      match takeBytes count.toNat rest with
      | .incomplete => .incomplete
      | .failed c => .garbled c
      | .taken bytes rest' => takeEndOfFrame (.extension seven source bytes) (first :: count :: bytes) rest'

/-- A frame after its opening pattern: the first byte's kind code decides what follows (R29). -/
def takeFrame (levels : List Bool) : Reception :=
  match takeByte levels with
  | .incomplete => .incomplete
  | .failed c => .garbled c
  | .taken first rest =>
    let source : Addr := first.setWidth 5
    match first.toNat / 32 with
    | 1 => takeData first source rest
    | 2 => takeSolicit first source rest
    | 3 => takeAddressed (.token source) first rest
    | 4 => takeAddressed (.invite source) first rest
    | 5 => takeAddressed (.join source) first rest
    | 6 => takeEndOfFrame (.claim source) [first] rest
    | 0 => takeExtension false first source rest
    | _ => takeExtension true first source rest

/-- The four idle bit times of the opening pattern, then the frame; an active level in the first of them is the
thirteenth bit time (R28, R34). -/
def takeIdleOpening : Nat → List Bool → Reception
  | 0, levels => takeFrame levels
  | _ + 1, [] => .incomplete
  | n + 1, level :: rest =>
    if level then takeIdleOpening n rest
    else .garbled (if n = 3 then .openingLong else .openingIdle)

/-- The active bit times of the opening pattern (R28, R34). -/
def takeActiveOpening : Nat → List Bool → Reception
  | 0, levels => takeIdleOpening 4 levels
  | _ + 1, [] => .incomplete
  | n + 1, level :: rest => if level then .garbled .openingShort else takeActiveOpening n rest

/-- What a receiver reports of the levels from an activity start on, one for each bit time (R32 to R34). -/
def receive (levels : List Bool) : Reception := takeActiveOpening 12 levels

/-- The command a valid frame arrives as (R33); an extension frame arrives as a foreign frame (R30). -/
def Frame.arrival : Frame → Instr
  | .data source key payload => .dataFrame source key payload
  | .solicit source key => .solicitFrame source key
  | .token source destination => .tokenFrame source (destination.setWidth 8)
  | .invite source destination => .inviteFrame source (destination.setWidth 8)
  | .join source destination => .joinFrame source (destination.setWidth 8)
  | .claim source => .claimFrame source
  | .extension _ _ _ => .foreignFrame

/-- The command a reception arrives as, once it is complete (R33, R34). -/
def Reception.arrival : Reception → Option Instr
  | .incomplete => none
  | .garbled _ => some .garbledFrame
  | .valid f => some f.arrival

end Sys2Proof.Machine
end

