-- ==== Sys2Proof/Machine/Ring.lean ====
section
/-! DEFINITION. The ring controller's shared operations (chapter 4): entering and ending a holding, beginning the
part's frames, reaching OFF and WITHDRAWN, starting and stopping the link, and taking an arrival. -/

namespace Sys2Proof.Machine

/-! ### Requests and frames of the part -/

/-- A request that waits `gap` bit times from now (R37). -/
def Waiting.fresh (kind : WaitKind) (gap : Nat) : Waiting := { kind := kind, gap := gap, elapsed := 0 }

/-- The line unit with a request waiting for its start time, or none (R36). -/
def State.await (s : State) (w : Option Waiting) : State := s.withLine { s.line with waiting := w }

/-- The line unit as one of the part's frames begins: its request has been met, a reception begun meanwhile is not
seen (R35, R92). -/
def LineUnit.beginFrame (l : LineUnit) (f : Option RingFrame) : LineUnit :=
  { l with
    ringFrame := f
    txClocks := 0
    waiting := none
    receiver := if l.receiver = .assembling then .hunting else l.receiver }

/-- The line unit at the end of one of the part's frames: the transmitter is idle, the receiver hunts once the line,
just released, has rested for 2 bt (R32, R35, R36), and the gap after the frame is counted (R37). -/
def LineUnit.endFrame (l : LineUnit) : LineUnit := { l with ringFrame := none, idleClocks := 0, gapClocks := 0 }

/-- A frame of the ring controller begins (R36). -/
def State.beginRingFrame (s : State) (kind : RingFrameKind) (destination : Addr) : State :=
  (s.withLine (s.line.beginFrame (some ⟨kind, destination⟩))).withRing { s.ring with silence := s.ring.silence.release }

/-- The send scheduler is told that the holding has ended (R97, R102). -/
def Scheduler.endHolding (c : Scheduler) : Scheduler := { c with holding := false, framesLeft := 0 }

/-- The holding has ended: the waiting opportunity is dropped (R88, R102). -/
def State.endHolding (s : State) : State := (s.withSched s.sched.endHolding).await none

/-! ### Link changes -/

/-- A link change merged into the link notice (R155). -/
def mergeLinkNotice (n : Option LinkNotice) (c : Condition) (successor : Option Addr) : LinkNotice :=
  match n with
  | none => { condition := c, successor := successor, changes := 1 }
  | some n => { condition := c, successor := successor, changes := if n.changes < 255 then n.changes + 1 else 255 }

/-- Whether the condition and successor are to be handed on, against those last handed on (R84). -/
def Ring.changed (r : Ring) : Bool :=
  decide (r.condition ≠ r.lastCondition) ||
    (decide (r.condition = .inRing) && decide (r.successor ≠ r.lastSuccessor))

/-- The comparison that ends a step which changes the link state or the successor (R67, R84). -/
def State.reportLink (s : State) : State :=
  if s.ring.changed then
    (s.withRing { s.ring with lastCondition := s.ring.condition, lastSuccessor := s.ring.successor }).withEvents
      { s.events with linkNotice := some (mergeLinkNotice s.events.linkNotice s.ring.condition s.ring.successor) }
  else s

/-! ### Holdings -/

/-- The countdown's step at an entry to HOLDING (R76). -/
def Ring.stepCountdown (r : Ring) : Nat :=
  if r.successor.isSome && decide (r.inviteInterval ≠ 0) then r.inviteCountdown - 1 else r.inviteCountdown

/-- The ring controller's part of an entry to HOLDING (R73). -/
def Ring.enterHolding (r : Ring) : Ring :=
  { r with
    link := .holding
    rotation := r.rotation + 1
    inviteCountdown := r.stepCountdown
    window := .stopped
    pause := .stopped
    awaited := none }

/-- The send scheduler's part of an entry to HOLDING (R73, R91). -/
def Scheduler.beginHolding (c : Scheduler) (budget : Nat) : Scheduler :=
  { c with holding := true, framesLeft := budget, sendingOpen := true }

/-- An entry to HOLDING; the first opportunity waits as given (R73, R91). -/
def State.enterHolding (s : State) (first : Option Waiting) : State :=
  ((s.withRing s.ring.enterHolding).withSched (s.sched.beginHolding s.ring.budget)).await first

/-- A holding whose first opportunity comes `gap` bit times from now (R91). -/
def State.startHolding (s : State) (gap : Nat) : State := s.enterHolding (some (Waiting.fresh .opportunity gap))

/-- A TOKEN to `d` begins and the link is PASSING (R74, R78, R80). -/
def State.passToken (s : State) (d : Addr) (attempt : Attempt) : State :=
  ((s.endHolding).beginRingFrame .token d).withRing
    { s.ring with
      link := .passing
      awaited := some d
      attempt := attempt
      silence := s.ring.silence.release }

/-- An invite is due at the end of sending (R76). -/
def Ring.inviteDue (r : Ring) : Bool :=
  r.alone || (decide (r.inviteInterval ≠ 0) && decide (r.inviteCountdown = 0))

/-- The address a due invite goes to (R77). -/
def Ring.inviteTarget (r : Ring) : Addr := if r.inGap r.inviteCursor then r.inviteCursor else r.gapFirst

/-- The cursor after an unanswered INVITE (R77). -/
def Ring.advanceCursor (r : Ring) : Addr := if r.inGap (r.inviteCursor + 1) then r.inviteCursor + 1 else r.gapFirst

/-- The countdown when an invite is due: reloaded unless the part is alone (R76). -/
def Ring.reloadCountdown (r : Ring) : Nat := if r.alone then r.inviteCountdown else r.inviteInterval

/-- The INVITE of a holding begins (R74, R76, R77). -/
def State.beginInvite (s : State) : State :=
  ((s.endHolding).beginRingFrame .invite s.ring.inviteTarget).withRing
    { s.ring with
      link := .inviting
      awaited := some s.ring.inviteTarget
      inviteCursor := s.ring.inviteTarget
      inviteCountdown := s.ring.reloadCountdown
      silence := s.ring.silence.release }

/-- Sending has ended: the ring controller begins an INVITE or a TOKEN (R74, R97). -/
def State.sendingEnded (s : State) : State :=
  let s1 := s.withSched { s.sched with sendingOpen := false }
  if s.ring.inviteDue && !s.ring.gapEmpty then s1.beginInvite
  else
    match s.ring.successor with
    | some d =>
      (if s.ring.inviteDue then s1.withRing { s.ring with inviteCountdown := s.ring.reloadCountdown } else s1).passToken d .first
    | none => s1

/-! ### Reaching OFF and WITHDRAWN -/

/-- The ring controller at OFF (R87). -/
def Ring.reachOff (r : Ring) : Ring :=
  { r with
    link := .off
    window := .stopped
    silence := .stopped
    pause := .stopped
    awaited := none
    attempt := .first
    stopRequest := false
    unheard := if r.link = .withdrawn then 0 else r.unheard }

/-- The link reaches OFF (R87, R103): the receiver stops, no request is left, the holding and the stop request end,
and the open list gets the OFF report. A filing request handed on by then stays and is filed, the model's choice (log
27). -/
def State.reachOff (s : State) : State :=
  (((s.withRing s.ring.reachOff).withLine { s.line with receiver := .stopped, waiting := none }).withSched
    { s.sched.endHolding with stopRequest := false }).reportOff

/-- The ring controller at WITHDRAWN (R82, R83). -/
def Ring.withdraw (r : Ring) : Ring :=
  { r with
    link := .withdrawn
    unheard := Config.unheardLimit
    window := .stopped
    silence := .stopped
    pause := .stopped
    awaited := none }

/-- The link enters WITHDRAWN (R83). -/
def State.withdraw (s : State) : State := ((s.withRing s.ring.withdraw).endHolding).reportWithdrawn

/-- The unheard count increases by 1; at 6 the link enters WITHDRAWN in place of `target` (R82). -/
def State.unheardTo (s : State) (target : LinkState) : State :=
  if Config.unheardLimit ≤ s.ring.unheard + 1 then s.withdraw
  else (s.withRing { s.ring with link := target, awaited := none, unheard := s.ring.unheard + 1 }).endHolding

/-- The link leaves for `target` with the unheard count unchanged, the holding abandoned if there is one (R71, R75,
R79). -/
def State.leaveTo (s : State) (target : LinkState) : State :=
  (s.withRing { s.ring with link := target, awaited := none }).endHolding

/-- The unheard count set to 0 (R71, R79). -/
def State.heard (s : State) : State := s.withRing { s.ring with unheard := 0 }

/-! ### Starting and stopping the link -/

/-- The ring controller at LINK_START (Table 4-1, R85). -/
def Ring.start (r : Ring) (o : LinkOptions) : Ring :=
  { r with
    link := .listen
    ownAddress := o.ownAddress
    budget := o.budget
    inviteInterval := o.inviteInterval
    listenOnly := o.listenOnly
    selfFiling := o.selfFiling
    liveMap := setMark 0 o.ownAddress
    awaited := none
    attempt := .first
    inviteCursor := o.ownAddress + 1
    inviteCountdown := o.inviteInterval
    rotation := 0
    unheard := 0
    clash := false
    stopRequest := false
    window := .stopped
    silence := .running 0
    pause := .stopped }

/-- LINK_START carried out (R43, R85, R140). The receiver hunts from the first 2 bt of idle line it sees, which may fall
within a frame already on the line (log 33). -/
def State.startLink (s : State) (o : LinkOptions) : State :=
  (((s.withRing (s.ring.start o)).withLine
    { s.line with divider := o.divider, receiver := .hunting, idleClocks := 0, waiting := none }).withSched
    { s.sched with cursor := 0 }).reportLink

/-- The stop request stands; the timers of R86 do not run (R86). -/
def State.standStop (s : State) : State :=
  s.withRing { s.ring with stopRequest := true, window := .stopped, pause := .stopped }

/-- The send scheduler takes no further snapshot (R86, R103). -/
def State.forbidSnapshots (s : State) : State := s.withSched { s.sched with stopRequest := true }

/-- A waiting request turned into the TOKEN of a stop, at the same start time; with none waiting, at once (R86). -/
def Waiting.toToken (w : Option Waiting) : Waiting :=
  match w with
  | some w => { w with kind := .token }
  | none => Waiting.fresh .token 0

/-- The TOKEN of a stop taken in INVITING: 4 bt after the INVITE's end, whatever has settled the response window since,
or at once when that time has passed (R86, log 21). -/
def LineUnit.stopTokenAfterInvite (l : LineUnit) : Waiting :=
  { kind := .token, gap := Config.frameGap, elapsed := l.gapClocks }

/-- After the last frame a stop finishes: the TOKEN to the successor, or OFF when alone (R86). -/
def State.afterStoppedFrame (s : State) : State :=
  if s.ring.alone then s.reachOff else s.await (some (Waiting.fresh .token Config.frameGap))

/-- LINK_STOP in the ring controller (R86, R142). In INVITING with the awaited JOIN taken, the joined node counts as the
successor: the TOKEN goes to it, and the part is not alone (log 35). -/
def State.stopLink (s : State) : State :=
  if s.ring.stopRequest then s
  else
    match s.ring.link with
    | .off => s
    | .listen => s.reachOff
    | .member => s.reachOff
    | .withdrawn => s.reachOff
    | .joining => if s.transmitting then s.standStop else s.reachOff
    | .passing => if s.transmitting then s.standStop else s.reachOff
    | .holding =>
      if s.transmitting then s.standStop.forbidSnapshots
      else if s.ring.alone then s.reachOff
      else (s.standStop.forbidSnapshots).await (some (Waiting.toToken s.line.waiting))
    | .inviting =>
      if s.transmitting then s.standStop
      else if s.ring.alone then s.reachOff
      else s.standStop.await (some s.line.stopTokenAfterInvite)

/-! ### Arrivals -/

/-- An arrival as the ring controller takes it (R67): a valid frame of a known kind with its source, and for TOKEN,
INVITE and JOIN its destination; a foreign frame; or a garbled frame. -/
inductive Arrival
  | content (source : Addr)
  | token (source destination : Addr)
  | invite (source destination : Addr)
  | join (source destination : Addr)
  | foreign
  | garbled
deriving DecidableEq, Repr

/-- The source of a valid frame of a known kind (R65). -/
def Arrival.source : Arrival → Option Addr
  | .content a => some a
  | .token a _ => some a
  | .invite a _ => some a
  | .join a _ => some a
  | .foreign => none
  | .garbled => none

/-- A TOKEN for the part (R67). -/
def Arrival.isTokenFor (own : Addr) : Arrival → Bool
  | .token _ d => decide (d = own)
  | .content _ => false
  | .invite _ _ => false
  | .join _ _ => false
  | .foreign => false
  | .garbled => false

/-- The inviter of an INVITE for the part (R67). -/
def Arrival.inviter (own : Addr) : Arrival → Option Addr
  | .invite a d => if d = own then some a else none
  | .content _ => none
  | .token _ _ => none
  | .join _ _ => none
  | .foreign => none
  | .garbled => none

/-- The ring controller with the mark of an arrival's source set, and the clash flag when the source is the part's own
address (R42, R65). -/
def Ring.markSource (r : Ring) (a : Arrival) : Ring :=
  match a.source with
  | some x => { r with liveMap := setMark r.liveMap x, clash := r.clash || decide (x = r.ownAddress) }
  | none => r

/-- The rule of LISTEN, and of MEMBER: a TOKEN for the part starts a holding, an INVITE for it makes a JOIN ready, and a
JOIN ready before is not sent (R68, R70, R72). -/
def State.takeIdle (s : State) (a : Arrival) : State :=
  if s.ring.listenOnly then s
  else if a.isTokenFor s.ring.ownAddress then s.startHolding Config.answerGap
  else
    match a.inviter s.ring.ownAddress with
    | some x => s.await (some (Waiting.fresh (.join x) Config.answerGap))
    | none => s.await none

/-- The rule of JOINING (R71). -/
def State.takeJoining (s : State) (a : Arrival) : State :=
  if a = .garbled then s.leaveTo .listen
  else if a.isTokenFor s.ring.ownAddress && decide (a.source = s.ring.awaited) then
    s.heard.startHolding Config.answerGap
  else s.unheardTo .listen

/-- The rule of HOLDING, the lone pause included (R75, R81). -/
def State.takeHolding (s : State) (a : Arrival) : State :=
  if a = .garbled then s.leaveTo .member
  else if a.isTokenFor s.ring.ownAddress then s.startHolding Config.answerGap
  else s.unheardTo .member

/-- An INVITE has gone unanswered: the cursor advances (R77, R78). -/
def Ring.unanswered (r : Ring) : Ring := { r with inviteCursor := r.advanceCursor }

/-- The lone pause begins, spent in HOLDING (R41, R73, R81). -/
def State.beginPause (s : State) : State :=
  s.withRing { s.ring with link := .holding, awaited := none, pause := .running 0 }

/-- The awaited JOIN: from the invited address to the part (R67, R78). -/
def Ring.joinAnswers (r : Ring) (a : Arrival) : Bool :=
  match a with
  | .join x d => decide (some x = r.awaited) && decide (d = r.ownAddress)
  | .content _ => false
  | .token _ _ => false
  | .invite _ _ => false
  | .foreign => false
  | .garbled => false

/-- The rule of INVITING; `inWindow`: the arrival settles the response window (R78). A garbled frame outside the window
leaves the TOKEN that waits then (DEDUCED, log 16). -/
def State.takeInviting (s : State) (a : Arrival) (inWindow : Bool) : State :=
  if a = .garbled then
    if inWindow then
      let s1 := s.withRing s.ring.unanswered
      if s.ring.alone then s1.beginPause else s1.await (some (Waiting.fresh .token Config.frameGap))
    else s
  else if inWindow && s.ring.joinAnswers a then s.await (some (Waiting.fresh .token Config.answerGap))
  else if a.isTokenFor s.ring.ownAddress then s.startHolding Config.answerGap
  else s.unheardTo .member

/-- The rule of PASSING (R79). -/
def State.takePassing (s : State) (a : Arrival) : State :=
  if a = .garbled then s.leaveTo .member
  else if a.source.isSome && decide (a.source = s.ring.awaited) then
    if a.isTokenFor s.ring.ownAddress then s.heard.startHolding Config.answerGap else s.heard.leaveTo .member
  else if a.isTokenFor s.ring.ownAddress then s.startHolding Config.answerGap
  else s.unheardTo .member

/-- The rule of the link state an arrival is taken in; under a stop request the link reaches OFF (R67, R86). -/
def State.takeByLink (s : State) (a : Arrival) (inWindow : Bool) : State :=
  if s.ring.stopRequest then s.reachOff
  else
    match s.ring.link with
    | .off => s
    | .listen => s.takeIdle a
    | .joining => s.takeJoining a
    | .member => s.takeIdle a
    | .holding => s.takeHolding a
    | .inviting => s.takeInviting a inWindow
    | .passing => s.takePassing a
    | .withdrawn => s

/-- A request whose start time came during the activity an arrival ends: 4 bt after that arrival (R36, R37). -/
def Waiting.remeasure (divider : Nat) (w : Waiting) : Waiting :=
  if w.due divider then Waiting.fresh w.kind Config.frameGap else w

/-- The line unit at an arrival: the receiver hunts again, with 2 bt of idle line to see first (R32), and a request
whose start time came during the activity has it measured again, which counts if the link's rule leaves it standing
(R36). -/
def LineUnit.endActivity (l : LineUnit) : LineUnit :=
  { l with receiver := .hunting, idleClocks := 0, waiting := l.waiting.map (Waiting.remeasure l.divider) }

/-- The clocks the line stays at the active level after an arrival: none after a valid frame, whose end is the return
to the idle level (R28, R33); after a garbled one what is left of them (R32, R34). -/
def State.activeAfter (s : State) (a : Arrival) : Nat := if a = .garbled then s.lineActive else 0

/-- The arrival's first effects: the mark, the silence timer, the window and pause settled, and the activity ended in
the line unit (R36, R67). -/
def State.noteArrival (s : State) (a : Arrival) : State :=
  let r := (s.ring.markSource a).restartSilence
  ((s.withLine s.line.endActivity).withRing { r with window := .stopped, pause := .stopped }).withLineActive
    (s.activeAfter a)

/-- An arrival taken whole by the ring controller (R67). It ends an activity, so a receiver that is not assembling, or
is stopped in OFF, or held while the part transmits, reports none (R32, R35, R61). -/
def State.arrive (s : State) (a : Arrival) : State :=
  if s.hears then
    ((s.noteArrival a).takeByLink a (!s.ring.window.isStopped)).reportLink
  else s

/-- An arrival whose frame also goes to the filing path (R33, R44), which holds no request by then (R45, log 10). -/
def State.arriveAndFile (s : State) (a : Arrival) (r : FilingRequest) : State :=
  if s.hears && s.filing.isNone then (s.arrive a).handOn r else s

/-- A destination byte above 31 makes the frame garbled (R29, R34); log 9. -/
def State.arriveAddressed (s : State) (destination : Byte) (a : Addr → Arrival) : State :=
  if destination.toNat ≤ 31 then s.arrive (a (destination.setWidth 5)) else s.arrive .garbled

end Sys2Proof.Machine
end

