-- ==== Sys2Proof/Machine/Clock.lean ====
section
/-! DEFINITION. One period of the 40 MHz reference clock: what a step on an empty queue does when no row of the part's
own is due (log 2). Every running counter advances and stays at its limit until the row of its expiry or end is taken. -/

namespace Sys2Proof.Machine

/-- A count that stays at its limit. -/
def countUp (limit n : Nat) : Nat := if n < limit then n + 1 else n

/-- The request waiting for its start time counts towards it (R37). -/
def Waiting.tick (divider : Nat) (w : Waiting) : Waiting := { w with elapsed := countUp (w.gap * divider) w.elapsed }

/-- The ring timers count, to their values in bit times (R39, R40, R41). -/
def Ring.tick (divider : Nat) (r : Ring) : Ring :=
  { r with
    window := r.window.tick (Config.responseWindow * divider)
    silence := r.silence.tick (Config.silenceTimeout r.ownAddress * divider)
    pause := r.pause.tick (Config.lonePause * divider) }

/-- The transmit shifter moves on along the frame in flight (R27, R36). -/
def State.tickShifter (s : State) : Nat :=
  match s.frameInFlight with
  | some f => countUp (f.duration * s.line.divider) s.line.txClocks
  | none => s.line.txClocks

/-- A hunting receiver has seen the line rest idle for one clock more, when it is at the idle level; while it is at the
active level the count stays at 0, so that it begins at the return to the idle level (R32). -/
def State.tickIdle (s : State) : Nat :=
  if s.hunts then
    if s.lineActive = 0 then countUp s.line.idleNeeded s.line.idleClocks else 0
  else s.line.idleClocks

/-- The line unit's counters. -/
def State.tickLine (s : State) : LineUnit :=
  { s.line with
    idleClocks := s.tickIdle
    gapClocks := countUp s.line.gapNeeded s.line.gapClocks
    txClocks := s.tickShifter
    waiting := s.line.waiting.map (Waiting.tick s.line.divider) }

/-- The quiet timer and the response timer of an event write (R157, R166). -/
def EventWriter.tick (e : EventWriter) : EventWriter :=
  { e with
    quietClocks := countUp (Config.quietLimit * Config.clocksPerMicrosecond) e.quietClocks
    write := e.write.map fun w => { w with clocks := countUp Config.busTimeoutClocks w.clocks } }

/-- The response timer of a command read (R166). -/
def Engine.tick (e : Engine) : Engine :=
  { e with cmdRead := e.cmdRead.map fun r => { r with clocks := countUp Config.busTimeoutClocks r.clocks } }

/-- One period of the reference clock. While RESET is low the part stays in its reset state (R168). -/
def State.tick (s : State) : State :=
  if s.resetLow then s
  else
    ((((s.withLine s.tickLine).withRing (s.ring.tick s.line.divider)).withEngine s.engine.tick).withEvents
      s.events.tick).withLineActive (s.lineActive - 1)

end Sys2Proof.Machine
end

