-- ==== Sys2Proof/Machine/Arrivals.lean ====
section
/-! DEFINITION. The meanings of what the line unit hands on: activity starts, valid frames, garbled frames (R32 to R34,
R67). -/

namespace Sys2Proof.Machine

/-- The ring timers held from an activity start (R39, R40, R41). -/
def Ring.holdTimers (r : Ring) : Ring :=
  { r with window := r.window.hold, silence := r.silence.hold, pause := r.pause.hold }

/-- The receiver as the line goes active for so many clocks. When it hunts, the line has rested for 2 bt and the level
is held through the middle of its bit time, it begins assembling and the ring timers are held. When it hunts and the
level comes sooner, or is a glitch, nothing is reported, and 2 bt of idle line are wanted anew from the return to the
idle level (R32; for a glitch the model's reading, log 8). A level of a frame that was under way at LINK_START is
reported like any other once the line has rested for 2 bt, as it may within the frame's bytes: the model's choice
between R32 and R43 (log 33). -/
def State.seeActive (s : State) (clocks : Nat) : State :=
  if s.hunts then
    if s.line.rested && s.line.holdsBit clocks then
      (s.withLine { s.line with receiver := .assembling }).withRing s.ring.holdTimers
    else s.withLine { s.line with idleClocks := 0 }
  else s

/-- ACTIVITY_START: the line leaves the idle level and is active for so many clocks, a glitch or not (R32). The operand
is the whole length of the active level, so that a row that comes while the line is active, or one of no clock, is not
due (logs 1 and 8). -/
def execActivityStart (clocks : Nat) (s : State) : Host.Outcome State Fault Refusal :=
  .next (if s.activityDue clocks then (s.seeActive clocks).withLineActive clocks else s)

/-- DATA_FRAME: the ring controller takes the arrival and the filing path gets the frame; a length above 16 makes the
frame garbled (R33, R34, R44). -/
def execDataFrame (source : Addr) (key : Key) (payload : List Byte) (s : State) : Host.Outcome State Fault Refusal :=
  .next (if payload.length ≤ 16 then s.arriveAndFile (.content source) (.data source key payload) else s.arrive .garbled)

/-- SOLICIT_FRAME (R33, R44). -/
def execSolicitFrame (source : Addr) (key : Key) (s : State) : Host.Outcome State Fault Refusal :=
  .next (s.arriveAndFile (.content source) (.solicit source key))

/-- TOKEN_FRAME (R67). -/
def execTokenFrame (source : Addr) (destination : Byte) (s : State) : Host.Outcome State Fault Refusal :=
  .next (s.arriveAddressed destination (.token source))

/-- INVITE_FRAME (R70). -/
def execInviteFrame (source : Addr) (destination : Byte) (s : State) : Host.Outcome State Fault Refusal :=
  .next (s.arriveAddressed destination (.invite source))

/-- JOIN_FRAME (R78). -/
def execJoinFrame (source : Addr) (destination : Byte) (s : State) : Host.Outcome State Fault Refusal :=
  .next (s.arriveAddressed destination (.join source))

/-- CLAIM_FRAME (R65). -/
def execClaimFrame (source : Addr) (s : State) : Host.Outcome State Fault Refusal := .next (s.arrive (.content source))

/-- FOREIGN_FRAME (R30). -/
def execForeignFrame (s : State) : Host.Outcome State Fault Refusal := .next (s.arrive .foreign)

/-- GARBLED_FRAME (R34). -/
def execGarbledFrame (s : State) : Host.Outcome State Fault Refusal := .next (s.arrive .garbled)

end Sys2Proof.Machine
end

