-- ==== Sys2Proof/Machine/Commands.lean ====
section
/-! DEFINITION. The meanings of the ten commands: each row executes the taken and checked record when that record is
its command (chapter 7, log 5); otherwise its step is not due and nothing changes (log 1). The five that do slot work
wait for their turn at the slot table controller (R9). -/

namespace Sys2Proof.Machine

/-- The command is refused LIST_FULL before it reaches the slot table (R116, R134). -/
def State.refusedFull (s : State) (c : Command) : Bool :=
  match c with
  | .send _ confirm => confirm && s.longFull
  | .store _ => false
  | .fetch _ _ => false
  | .cancel _ => false
  | .tableClear => false
  | .nop => false
  | .linkStart _ => false
  | .linkStop => false
  | .mapRead => false
  | .barrier => false

/-- The execution step of the checked command may be made: one that does slot work has its turn at the slot table
(R9). -/
def State.commandDue (s : State) (c : Command) : Bool := !c.usesTable || s.turn .command || s.refusedFull c

/-- NOP (R128). -/
def execNop (s : State) : Host.Outcome State Fault Refusal :=
  .next (match s.engine.checked with
    | some .nop => s.finishStatus .ok
    | _ => s)

/-- A STORE executed: refused, or written and done with OK (R130). -/
def State.runStore (s : State) (o : StoreOperands) : State :=
  match o.refusal s.slots[o.slot] with
  | some st => s.finishStatus st
  | none => (s.storeSlot o).finishStatus .ok

/-- STORE (R130). -/
def execStore (s : State) : Host.Outcome State Fault Refusal :=
  .next (match s.engine.checked with
    | some (.store o) => if s.commandDue (.store o) then s.runStore o else s
    | _ => s)

/-- A FETCH executed: the copy is taken before any consume (R131). -/
def State.runFetch (s : State) (k : SlotId) (consume : Bool) : State :=
  (if consume then s.consumeSlot k else s).finishCommand .immediate ⟨.ok, .fetch s.slots[k]⟩

/-- FETCH (R131). -/
def execFetch (s : State) : Host.Outcome State Fault Refusal :=
  .next (match s.engine.checked with
    | some (.fetch k consume) => if s.commandDue (.fetch k consume) then s.runFetch k consume else s
    | _ => s)

/-- The link is OFF or WITHDRAWN (R134, R139). -/
def State.linkDown (s : State) : Bool := !s.ring.link.runsTimers

/-- A SEND with confirm executed on a slot in service (R134). -/
def State.runConfirm (s : State) (k : SlotId) : State :=
  if s.linkDown then (s.setPending k).finishCommand .long ⟨.linkDown, .none⟩ else (s.setPending k).waitCommand

/-- A SEND executed, its refusals in the order of R127 (R133, R134). -/
def State.runSend (s : State) (k : SlotId) (confirm : Bool) : State :=
  if confirm && s.longFull then s.finishStatus .listFull
  else if !s.slots[k].inService then s.finishStatus .notInService
  else if confirm then s.runConfirm k
  else (s.setPending k).finishStatus .ok

/-- SEND (R133). -/
def execSend (s : State) : Host.Outcome State Fault Refusal :=
  .next (match s.engine.checked with
    | some (.send k confirm) => if s.commandDue (.send k confirm) then s.runSend k confirm else s
    | _ => s)

/-- A CANCEL executed: TOO_LATE when the slot's frame is in flight (R100, R136). -/
def State.runCancel (s : State) (k : SlotId) : State :=
  (s.clearPending k).finishCommand .immediate
    ⟨if s.slotInFlight = some k then .tooLate else .ok, .cancel s.slots[k].sendPending⟩

/-- CANCEL (R136). -/
def execCancel (s : State) : Host.Outcome State Fault Refusal :=
  .next (match s.engine.checked with
    | some (.cancel k) => if s.commandDue (.cancel k) then s.runCancel k else s
    | _ => s)

/-- TABLE_CLEAR (R138). -/
def execTableClear (s : State) : Host.Outcome State Fault Refusal :=
  .next (match s.engine.checked with
    | some .tableClear => if s.commandDue .tableClear then s.clearTable.finishStatus .ok else s
    | _ => s)

/-- A LINK_START executed (R139). -/
def State.runLinkStart (s : State) (o : LinkOptions) : State :=
  if s.linkDown then (s.startLink o).finishStatus .ok else s.finishStatus .linkBusy

/-- LINK_START (R139). -/
def execLinkStart (s : State) : Host.Outcome State Fault Refusal :=
  .next (match s.engine.checked with
    | some (.linkStart o) => s.runLinkStart o
    | _ => s)

/-- A LINK_STOP executed: refused LIST_FULL, done at once in OFF, or handed to the ring controller while its entry
waits (R141, R142). -/
def State.runLinkStop (s : State) : State :=
  if s.longFull then s.finishStatus .listFull
  else if s.ring.link = .off then s.finishCommand .long ⟨.ok, .none⟩
  else s.waitCommand.stopLink.reportLink

/-- LINK_STOP (R141). -/
def execLinkStop (s : State) : Host.Outcome State Fault Refusal :=
  .next (match s.engine.checked with
    | some .linkStop => s.runLinkStop
    | _ => s)

/-- The ring controller's values of Table 7-4, read together (R143). -/
def Ring.copy (r : Ring) : RingCopy where
  link := r.link
  condition := r.condition
  liveMap := r.liveMap
  successor := r.successor
  ownAddress := r.ownAddress
  rotation := r.rotation
  unheard := r.unheard
  clash := r.clash

/-- The state with other reads of a MAP_READ made. -/
def State.withMapReads (s : State) (m : MapReads) : State := s.withEngine { s.engine with mapReads := m }

/-- The read of the ring controller: the copy, then the clash flag cleared, in one step (R143, R144). -/
def State.readRing (s : State) : State :=
  if s.engine.mapReads.ring.isSome then s
  else (s.withRing { s.ring with clash := false }).withMapReads { s.engine.mapReads with ring := some s.ring.copy }

/-- The read of the filing counter (R143). -/
def State.readCounter (s : State) : State :=
  if s.engine.mapReads.counter.isSome then s
  else s.withMapReads { s.engine.mapReads with counter := some s.filingCounter }

/-- The read of the send cursor (R143). -/
def State.readCursor (s : State) : State :=
  if s.engine.mapReads.cursor.isSome then s
  else s.withMapReads { s.engine.mapReads with cursor := some s.sched.cursor }

/-- The reads of one part, or all that remain (R143). -/
def State.readPart (s : State) (part : MapPart) : State :=
  match part with
  | .ring => s.readRing
  | .table => s.readCounter
  | .scheduler => s.readCursor
  | .rest => s.readRing.readCounter.readCursor

/-- With all three reads made, the MAP_READ is done with their values (R143). -/
def State.endMapRead (s : State) : State :=
  match s.engine.mapReads.ring, s.engine.mapReads.counter, s.engine.mapReads.cursor with
  | some ring, some counter, some cursor => s.finishCommand .immediate ⟨.ok, .mapRead ring counter cursor⟩
  | _, _, _ => s

/-- MAP_READ (R143): a filing, a snapshot or an arrival may come between its reads (log 15). -/
def execMapRead (part : MapPart) (s : State) : Host.Outcome State Fault Refusal :=
  .next (match s.engine.checked with
    | some .mapRead => (s.readPart part).endMapRead
    | _ => s)

/-- A BARRIER executed: refused LIST_FULL, done at once with no earlier entry open, or waiting (R145). -/
def State.runBarrier (s : State) : State :=
  if s.longFull then s.finishStatus .listFull
  else if s.engine.openList.all Entry.isTaking then s.finishCommand .long ⟨.ok, .none⟩
  else s.waitCommand

/-- BARRIER (R145). -/
def execBarrier (s : State) : Host.Outcome State Fault Refusal :=
  .next (match s.engine.checked with
    | some .barrier => s.runBarrier
    | _ => s)

end Sys2Proof.Machine
end

