-- ==== Sys2Proof/Machine/Taking.lean ====
section
/-! DEFINITION. The meanings of the take of a command record (R111 to R115, R119 to R121). -/

namespace Sys2Proof.Machine

/-- A notice write is in flight (R111, R149). -/
def State.noticeInFlight (s : State) : Bool :=
  match s.events.write with
  | some w => decide (w.source = .notice)
  | none => false

/-- A take may begin (R111): RUNNING, no take under way, and the four conditions; no bus-master access is made while
RESET is low (R168). -/
def State.canTake (s : State) : Bool :=
  decide (s.engine.state = .running) && s.engine.cmdRead.isNone && s.engine.checked.isNone
    && decide (s.engine.head ≠ s.regs.cmdTail)
    && decide (s.engine.openList.length < Config.maxOpen)
    && decide (s.engine.credits < s.freeEntries)
    && !s.noticeInFlight
    && !s.resetLow

/-- The entry a take creates (R111, R115). Before the record is read its tag, code and slot are not known, and neither
is its kind; the model holds zeroes, no slot and `immediate`, its own choice (log 6). -/
def Entry.taken (index : Nat) : Entry :=
  { index := index, tag := 0, code := 0, slot := none, kind := .immediate, state := .taking }

/-- The engine as a take begins: the entry, its credit, and the read of the record at head (R111, R165). -/
def Engine.beginTake (e : Engine) (access : Nat) (address : BitVec 64) : Engine :=
  { e with
    openList := e.openList ++ [Entry.taken e.head]
    credits := e.credits + 1
    cmdRead := some { access := access, index := e.head, address := address, phase := e.phase, clocks := 0 } }

/-- TAKE_BEGIN (R111). When a condition fails the engine waits. -/
def execTakeBegin (s : State) : Host.Outcome State Fault Refusal :=
  .next (if s.canTake then
      (s.withEngine (s.engine.beginTake s.accessCount (s.regs.cmdAddress s.engine.head))).countAccess
    else s)

/-- The head advanced past the record read, the phase flipped when it wraps (R112). -/
def Engine.advance (e : Engine) (size : Nat) : Engine :=
  { e with
    head := ringNext size e.head
    phase := if ringNext size e.head = 0 then !e.phase else e.phase
    cmdRead := none }

/-- The taking entry with what was read from the record (R115). -/
def Entry.fromRecord (e : Entry) (r : List Byte) (slot : Option SlotId) : Entry :=
  { e with tag := recTag r, code := recByte r 0, slot := slot }

/-- The open list with the record's fields in the taking entry. -/
def readInto (r : List Byte) (slot : Option SlotId) (l : List Entry) : List Entry :=
  l.map fun e => if e.isTaking then e.fromRecord r slot else e

/-- A refused record's entry is done with the status of the failed check (R113). -/
def Engine.refuseRecord (e : Engine) (r : List Byte) (st : Status) : Engine :=
  { e with openList := finishTaking .immediate ⟨st, .none⟩ (readInto r none e.openList) }

/-- An accepted record's command waits for its execution step (R113, log 5). -/
def Engine.acceptRecord (e : Engine) (r : List Byte) (c : Command) : Engine :=
  { e with openList := readInto r c.slot e.openList, checked := some c }

/-- The claim of a command's slot work reaches the slot table controller (R9). The manual does not say when: the model
makes it as the record is accepted, ahead of the execution step, also for a confirm-SEND that is then refused LIST_FULL
and never reaches the table, its own choice (log 28). -/
def State.claimFor (s : State) (c : Command) : State := if c.usesTable then s.addClaim .command else s

/-- A record read is checked: refused, or accepted and its slot work claimed (R9, R113). -/
def State.checkTaken (s : State) (expected : Bool) (r : List Byte) : State :=
  match checkRecord expected r with
  | .error st => s.withEngine (s.engine.refuseRecord r st)
  | .ok c => (s.withEngine (s.engine.acceptRecord r c)).claimFor c

/-- The command read with an access number is in flight (R165). An answer that names another is that of an access
abandoned, discarded or timed out, and is ignored (R122, R163, R166, R167, log 7). -/
def State.reading (s : State) (access : Nat) : Bool := s.engine.cmdRead.any fun r => decide (r.access = access)

/-- A command read ends done: in FAULTED the take ends without a record (R121); otherwise the head advances and the
record is checked (R112, R113). -/
def State.endTake (s : State) (read : CommandRead) (record : List Byte) : State :=
  if s.engine.state = .faulted then s.withEngine s.engine.dropTaking
  else (s.withEngine (s.engine.advance s.regs.cmdRingSize)).checkTaken read.phase record

/-- TAKE_END (R112, R113). -/
def execTakeEnd (access : Nat) (record : List Byte) (s : State) : Host.Outcome State Fault Refusal :=
  .next (match s.engine.cmdRead with
    | none => s
    | some read => if s.reading access then s.endTake read record else s)

/-- The command read in flight has failed: FAULTED with CQ_READ, the take ended; when FAULTED already, the fault code
keeps its value (R120, R121). -/
def State.readFailed (s : State) : State :=
  if s.engine.state = .faulted then s.withEngine s.engine.dropTaking
  else s.withEngine { s.engine.dropTaking with state := .faulted, fault := .cqRead }

/-- CQ_READ_FAIL (R120). -/
def execCqReadFail (access : Nat) (s : State) : Host.Outcome State Fault Refusal :=
  .next (if s.reading access then s.readFailed else s)

end Sys2Proof.Machine
end

