-- ==== Sys2Proof/Machine/EventWrites.lean ====
section
/-! DEFINITION. The meanings of the event writer's rows (R148 to R155), of the bus timeout (R166) and of the quiet timer
(R157). -/

namespace Sys2Proof.Machine

/-- An event write begins: its record for the entry at the tail, and its access number (R149, R165, log 7). -/
def State.beginWrite (s : State) (record : List Byte) (source : EventSource) : State :=
  (s.withEvents { s.events with
    write := some {
      access := s.accessCount, address := s.regs.evtAddress s.events.tail, record := record, source := source
      clocks := 0 } }).countAccess

/-- The write of the completion of the entry at a position begins (R151). -/
def State.beginCompletion (s : State) (position : Nat) : State :=
  match s.engine.openList[position]? with
  | some e =>
    match e.completion with
    | some c => s.beginWrite (completionRecord s.events.phase e c) (.completion position)
    | none => s
  | none => s

/-- A completion's write may begin: none is in flight and a completion is ready (R148); no bus-master access is made
while RESET is low (R168). -/
def State.completionDue (s : State) : Bool := s.events.write.isNone && s.completionReady && !s.resetLow

/-- COMPLETION_WRITE: the oldest done entry's completion (R148, R151). -/
def execCompletionWrite (s : State) : Host.Outcome State Fault Refusal :=
  .next (if s.completionDue then
      match oldestDone s.engine.openList with
      | some position => s.beginCompletion position
      | none => s
    else s)

/-- The link notice's write may begin: none is in flight, the notice is ready, and no completion goes before it
(R148); no bus-master access is made while RESET is low (R168). -/
def State.linkNoticeDue (s : State) : Bool :=
  s.events.write.isNone && s.linkNoticeReady && !s.completionReady && !s.resetLow

/-- LINK_NOTICE_WRITE: the pending link notice is taken and cleared, the rotation count and clash flag read (R148,
R155). -/
def execLinkNoticeWrite (s : State) : Host.Outcome State Fault Refusal :=
  .next (match s.events.linkNotice with
    | some n =>
      if s.linkNoticeDue then
        (s.withEvents { s.events with linkNotice := none }).beginWrite
          (linkRecord s.events.phase n s.ring.clash s.ring.rotation) .notice
      else s
    | none => s)

/-- The front slot of the notice list is taken out and read, and its notice's write begins; when the list is empty, or
something stands in the write's way, the read ends without a write (R148, R152, log 14). -/
def State.readFront (s : State) : State :=
  match s.events.noticeList with
  | k :: rest =>
    if s.slotNoticeReady then (s.withNoticeList rest).beginWrite (noticeRecord s.events.phase k s.slots[k]) .notice
    else s
  | [] => s

/-- The event writer's claim is taken: its turn has come (R9), and a bus-master access may be made (R168). -/
def State.noticeDue (s : State) : Bool := s.turn .notice && !s.resetLow

/-- READ_FOR_NOTICE (R152). -/
def execReadForNotice (s : State) : Host.Outcome State Fault Refusal :=
  .next (if s.noticeDue then (s.dropClaim .notice).readFront else s)

/-- The tail advanced and the quiet timer restarted by a successful event write (R149, R157). -/
def EventWriter.advance (e : EventWriter) (size : Nat) : EventWriter :=
  { e with
    tail := ringNext size e.tail
    phase := if ringNext size e.tail = 0 then !e.phase else e.phase
    quietClocks := 0
    write := none }

/-- The event write with an access number is in flight (R165). An answer that names another is that of an access
abandoned, discarded or timed out, and is ignored (R149, R163, R166, R167, log 7). -/
def State.writing (s : State) (access : Nat) : Bool := s.events.write.any fun w => decide (w.access = access)

/-- A successful event write: the tail, the phase and the quiet timer, a completion's entry removed, and the event
writer's look for a notice (R118, R148, R149). The tail wraps by EVT_SIZE as it stands at the write's end, also when a
host has rewritten it, while STOPPED with an empty open list, since the notice write began: the model's choice (log
34). -/
def State.writeEnded (s : State) (w : EventWrite) : State :=
  let s1 := s.withEvents (s.events.advance s.regs.evtRingSize)
  (match w.source with
    | .completion position => s1.withEngine (s.engine.removeEntry position)
    | .notice => s1).lookForNotice

/-- EVENT_WRITE_DONE (R118, R149). -/
def execEventWriteDone (access : Nat) (s : State) : Host.Outcome State Fault Refusal :=
  .next (match s.events.write with
    | none => s
    | some w => if s.writing access then s.writeEnded w else s)

/-- The event write in flight has failed: the event is discarded and the engine FAULTED with EQ_WRITE; when FAULTED
already, the fault code keeps its value (R121, R150). -/
def State.writeFailed (s : State) : State :=
  let s1 := s.withEvents { s.events with write := none }
  if s.engine.state = .faulted then s1
  else s1.withEngine { s.engine with state := .faulted, fault := .eqWrite }

/-- EVENT_WRITE_FAIL (R150). -/
def execEventWriteFail (access : Nat) (s : State) : Host.Outcome State Fault Refusal :=
  .next (if s.writing access then s.writeFailed else s)

/-- The response timer of the access in flight has counted 2 ms (R166). -/
def State.timeoutDue (s : State) (access : BusAccess) : Bool :=
  match access with
  | .commandRead => s.engine.cmdRead.any fun r => decide (Config.busTimeoutClocks ≤ r.clocks)
  | .eventWrite => s.events.write.any fun w => decide (Config.busTimeoutClocks ≤ w.clocks)

/-- BUS_RESPONSE_TIMEOUT: the access unanswered for 2 ms is taken as failed (R166). -/
def execBusResponseTimeout (access : BusAccess) (s : State) : Host.Outcome State Fault Refusal :=
  .next (if s.timeoutDue access then
      match access with
      | .commandRead => s.readFailed
      | .eventWrite => s.writeFailed
    else s)

/-- QUIET_TIMER_EXPIRY: the quiet timer reaches NOTIFY_QUIET (R157). With NOTIFY_QUIET 0 it does not expire. -/
def execQuietTimerExpiry (s : State) : Host.Outcome State Fault Refusal :=
  .next (s.withEvents { s.events with
    quietClocks := max s.events.quietClocks (s.regs.notifyQuiet * Config.clocksPerMicrosecond) })

end Sys2Proof.Machine
end

