-- ==== Sys2Proof/Machine/Filing.lean ====
section
/-! DEFINITION. The meanings of the two filings (chapter 3): the request on its way is taken by the slot table
controller when its claim's turn has come (R9, R45). A join to the notice list makes the event writer look (R148). -/

namespace Sys2Proof.Machine

/-- The filing request leaves the path: the slot table controller takes its claim (R9, R45). -/
def State.takeFiling (s : State) : State := (s.withFiling none).dropClaim .filing

/-- FILE_DATA (R47). -/
def execFileData (s : State) : Host.Outcome State Fault Refusal :=
  .next (match s.filing with
    | some (.data source key payload) =>
      if s.turn .filing then (s.takeFiling.fileData source key payload).lookForNotice else s
    | _ => s)

/-- FILE_SOLICIT (R54). -/
def execFileSolicit (s : State) : Host.Outcome State Fault Refusal :=
  .next (match s.filing with
    | some (.solicit _ key) => if s.turn .filing then (s.takeFiling.fileSolicit key).lookForNotice else s
    | _ => s)

end Sys2Proof.Machine
end

