-- ==== Sys2Proof/Machine/HostPort.lean ====
section
/-! DEFINITION. The host port: the meanings of the register writes (chapter 9, R106, R107, R147, R158), and which row a
write on the host bus is. -/

namespace Sys2Proof.Machine

/-- A register write: no register access is answered while RESET is low (R168). -/
def State.hostAccess (s : State) (t : State) : Host.Outcome State Fault Refusal :=
  .next (if s.resetLow then s else t)

/-- The write's run bit taken against the engine state (R162 step 3, R109, R110); entering RUNNING makes the event
writer look for a notice (R148). -/
def State.controlRun (s : State) (run : Bool) : State :=
  match s.engine.state with
  | .stopped =>
    if run then
      match s.runCheck with
      | some cause => s.withEngine { s.engine with run := false, fault := .badConfig cause }
      | none => (s.withEngine { s.engine with state := .running, run := true, fault := .none }).lookForNotice
    else s
  | .running => if run then s else s.withEngine { s.engine with state := .stopped, run := false }
  | .faulted => s.setRefused

/-- RUN_SET (R109). -/
def execRunSet (s : State) : Host.Outcome State Fault Refusal := s.hostAccess (s.controlRun true)

/-- RUN_CLEAR (R110). -/
def execRunClear (s : State) : Host.Outcome State Fault Refusal := s.hostAccess (s.controlRun false)

/-- STATUS_WRITE: a 1 in the flag's bit clears the sticky index-refused flag (R164). -/
def execStatusWrite (value : Word) (s : State) : Host.Outcome State Fault Refusal :=
  s.hostAccess (s.withRegs { s.regs with indexRefused := s.regs.indexRefused && !value.getLsbD 16 })

/-- A ring-geometry register with a value stored; CMD_SIZE and EVT_SIZE keep the low four bits (R106, R160). -/
def Registers.setGeometry (g : Registers) (reg : GeometryReg) (value : Word) : Registers :=
  match reg with
  | .cmdBaseLo => { g with cmdBaseLo := value }
  | .cmdBaseHi => { g with cmdBaseHi := value }
  | .cmdSize => { g with cmdSize := value.extractLsb' 0 4 }
  | .evtBaseLo => { g with evtBaseLo := value }
  | .evtBaseHi => { g with evtBaseHi := value }
  | .evtSize => { g with evtSize := value.extractLsb' 0 4 }

/-- The geometry registers take writes: STOPPED with an empty open list (R106). -/
def State.geometryOpen (s : State) : Bool := decide (s.engine.state = .stopped) && s.engine.openList.isEmpty

/-- RING_GEOMETRY_WRITE (R106). -/
def execRingGeometryWrite (reg : GeometryReg) (value : Word) (s : State) : Host.Outcome State Fault Refusal :=
  s.hostAccess (if s.geometryOpen then s.withRegs (s.regs.setGeometry reg value) else s.setRefused)

/-- A CMD_TAIL value that is taken (R107). -/
def State.tailTaken (s : State) (v : Nat) : Bool :=
  if s.regs.cmdSizeValid then decide (v < s.regs.cmdRingSize) else decide (v = s.regs.cmdTail)

/-- CMD_TAIL_WRITE (R107). -/
def execCmdTailWrite (value : Word) (s : State) : Host.Outcome State Fault Refusal :=
  s.hostAccess (if s.tailTaken value.toNat then s.withRegs { s.regs with cmdTail := value.toNat } else s.setRefused)

/-- The event ring's size and indices are in range (R147). -/
def State.eventIndicesValid (s : State) : Bool :=
  s.regs.evtSizeValid && decide (s.regs.evtHead < s.regs.evtRingSize) && decide (s.events.tail < s.regs.evtRingSize)

/-- An EVT_HEAD value that is taken: on the cyclic run from the head to the tail (R147). -/
def State.headTaken (s : State) (h : Nat) : Bool :=
  if s.eventIndicesValid then
    decide (h < s.regs.evtRingSize) &&
      decide (ringDistance s.regs.evtRingSize s.regs.evtHead h ≤ s.unconsumed)
  else decide (h = s.regs.evtHead)

/-- EVT_HEAD_WRITE (R147); a taken one makes the event writer look for a notice (R148). -/
def execEvtHeadWrite (value : Word) (s : State) : Host.Outcome State Fault Refusal :=
  s.hostAccess (if s.headTaken value.toNat then (s.withRegs { s.regs with evtHead := value.toNat }).lookForNotice
    else s.setRefused)

/-- NOTIFY_LEVEL_WRITE (R158). -/
def execNotifyLevelWrite (value : Word) (s : State) : Host.Outcome State Fault Refusal :=
  s.hostAccess (if value.toNat ≤ 4096 then s.withRegs { s.regs with notifyLevel := value.toNat } else s.setRefused)

/-- NOTIFY_QUIET_WRITE (R158). -/
def execNotifyQuietWrite (value : Word) (s : State) : Host.Outcome State Fault Refusal :=
  s.hostAccess (if value.toNat ≤ 65535 then s.withRegs { s.regs with notifyQuiet := value.toNat } else s.setRefused)

/-- The offsets of the registers of Table 9-1. -/
def registerOffsets : List Nat :=
  [0x00, 0x04, 0x08, 0x10, 0x14, 0x18, 0x1C, 0x20, 0x28, 0x2C, 0x30, 0x34, 0x38, 0x3C, 0x40]

/-- A byte of the window belongs to a register of Table 9-1 (R160). -/
def registerByte (offset : Nat) : Bool := registerOffsets.contains (offset - offset % 4)

/-- An access addresses a byte of a register (R160). -/
def addressesRegister (offset : Nat) (width : AccessWidth) : Bool :=
  (List.range (AccessWidth.bytes width)).any fun i => registerByte (offset + i)

/-- REGISTER_WRITE_OTHER: ignored, with the sticky flag when a byte of a register is addressed (R160). -/
def execRegisterWriteOther (offset : Nat) (width : AccessWidth) (s : State) : Host.Outcome State Fault Refusal :=
  s.hostAccess (if isOtherWrite offset width && addressesRegister offset width then s.setRefused else s)

/-- The row a CONTROL write is: device reset first, then engine reset with its run bit, then run (R162). -/
def controlWrite (value : Word) : Instr :=
  if value.getLsbD 2 then .deviceReset
  else if value.getLsbD 1 then .engineReset (value.getLsbD 0)
  else if value.getLsbD 0 then .runSet
  else .runClear

/-- The row that a write on the host bus is: a full aligned write goes to its register, any other is
REGISTER_WRITE_OTHER (R160, Table 9-1). -/
def hostWrite (offset : Nat) (width : AccessWidth) (value : Word) : Instr :=
  if width = .word then
    match offset with
    | 0x04 => controlWrite value
    | 0x08 => .statusWrite value
    | 0x10 => .ringGeometryWrite .cmdBaseLo value
    | 0x14 => .ringGeometryWrite .cmdBaseHi value
    | 0x18 => .ringGeometryWrite .cmdSize value
    | 0x1C => .cmdTailWrite value
    | 0x28 => .ringGeometryWrite .evtBaseLo value
    | 0x2C => .ringGeometryWrite .evtBaseHi value
    | 0x30 => .ringGeometryWrite .evtSize value
    | 0x34 => .evtHeadWrite value
    | 0x3C => .notifyLevelWrite value
    | 0x40 => .notifyQuietWrite value
    | other => .registerWriteOther other width
  else .registerWriteOther offset width

end Sys2Proof.Machine
end

