-- ==== Sys2Proof/Machine/Resets.lean ====
section
/-! DEFINITION. The meanings of the resets (R23, R24, R122, R159, R162, R163, R168). -/

namespace Sys2Proof.Machine

/-- The part held in power-on reset: every block as at reset, RESET low; the line is as other nodes
drive it, and the queue and the counters of accesses and of free values are the model's own and stay. -/
def State.powerOn (s : State) : State :=
  { State.reset with
    resetLow := true
    lineActive := s.lineActive
    accessCount := s.accessCount
    freeCount := s.freeCount
    pending := s.pending }

/-- The free-value counter advanced. -/
def State.drawFree (s : State) : State := { s with freeCount := s.freeCount + 1 }

/-- RESET falls and does not reset the part: a frame in flight is cut short without an end report (R38, R168), and RESET
stays low until LEAVE_RESET. All else stays as it was (log 11). -/
def State.cutFrame (s : State) : State :=
  if s.transmitting then
    (s.withSched { s.sched with snapshot := none }).withLine s.line.endFrame
  else s

/-- RESET is low (R168). -/
def State.lowerReset (s : State) : State := { s with resetLow := true }

/-- POWER_ON_RESET (R168). A pulse shorter than 10 µs may or may not reset the part: a free value says (log 11). -/
def execPowerOnReset (cause : ResetCause) (s : State) : Host.Outcome State Fault Refusal :=
  match cause with
  | .supplyRise => .next s.powerOn
  | .pinLow microseconds =>
    if Config.resetPulse ≤ microseconds then .next s.powerOn
    else if Config.shortPulseResets s.freeCount then .next s.drawFree.powerOn
    else .next s.drawFree.cutFrame.lowerReset

/-- LEAVE_RESET: RESET returns high and register accesses are answered again (R168). -/
def execLeaveReset (s : State) : Host.Outcome State Fault Refusal := .next { s with resetLow := false }

/-- A slot after device reset: configuration and content kept, out of service, no status, no filing record (R24). -/
def Slot.afterDeviceReset (x : Slot) : Slot := { x.closed with source := none, filingNumber := none }

/-- The part after device reset: as after power-on reset, but for the slots' configuration and content (R163). A command
taken and checked but not yet executed is dropped without its work: R123 does not say, and it is the model's choice (log
5). -/
def State.afterDeviceReset (s : State) : State :=
  { State.reset with
    slots := s.slots.map Slot.afterDeviceReset
    resetLow := s.resetLow
    lineActive := s.lineActive
    accessCount := s.accessCount
    freeCount := s.freeCount
    pending := s.pending }

/-- DEVICE_RESET: a CONTROL write with the device-reset bit (R162 step 1, R163). -/
def execDeviceReset (s : State) : Host.Outcome State Fault Refusal := s.hostAccess s.afterDeviceReset

/-- The event writer after engine reset: the notice list and the link notice are kept (R159). -/
def EventWriter.afterEngineReset (e : EventWriter) : EventWriter :=
  { e with tail := 0, phase := true, quietClocks := 0, write := none }

/-- The queue engine after engine reset. A command taken and checked before it still does its work, without an entry:
what of it is not yet executed stays to be executed (R122, log 5). -/
def Engine.afterEngineReset (e : Engine) : Engine :=
  { Engine.atReset with checked := e.checked, mapReads := e.mapReads }

/-- The part after engine reset (R122, R159, R167). -/
def State.afterEngineReset (s : State) : State :=
  ((s.withEngine s.engine.afterEngineReset).withRegs { s.regs with cmdTail := 0, evtHead := 0 }).withEvents s.events.afterEngineReset

/-- ENGINE_RESET: a CONTROL write with the engine-reset bit, its run bit taken after the reset (R122, R162). -/
def execEngineReset (run : Bool) (s : State) : Host.Outcome State Fault Refusal :=
  s.hostAccess (s.afterEngineReset.controlRun run)

end Sys2Proof.Machine
end

