-- ==== Sys2Proof/Machine/Sending.lean ====
section
/-! DEFINITION. The meanings of the rows of a holding: send opportunities, find-and-snapshot, and the starts and ends of
the part's frames (chapters 4 and 5, R36, R37). -/

namespace Sys2Proof.Machine

/-- The opportunity has claimed a find-and-snapshot (R92). -/
def Waiting.claim (w : Waiting) : Waiting := { w with kind := .claimed }

/-- A send opportunity has come: its start time, holding active, sending open, no stop request (R92). During an
activity it waits for the arrival (R36). -/
def State.opportunityDue (s : State) : Bool :=
  decide (s.waitKind = some .opportunity) && s.startTimeCome && s.sched.holding && s.sched.sendingOpen
    && !s.sched.stopRequest

/-- SEND_OPPORTUNITY (R92): with frames left 0 sending ends; otherwise a find-and-snapshot is claimed. -/
def execSendOpportunity (s : State) : Host.Outcome State Fault Refusal :=
  .next (if s.opportunityDue then
      if s.sched.framesLeft = 0 then s.sendingEnded.reportLink
      else s.await (s.line.waiting.map Waiting.claim)
    else s)

/-- The snapshot of a slot: DATA for PUBLISH, SOLICIT for SUBSCRIBE (R16, R94). -/
def Slot.snapshot (x : Slot) (k : SlotId) : Snapshot :=
  match x.role with
  | .publish => { slot := k, key := x.key, body := .data x.length x.data }
  | .subscribe => { slot := k, key := x.key, body := .solicit }

/-- The frame of slot `k` starts: send pending cleared, the snapshot taken, the cursor moved past k, the frame-started
report made (R16, R93, R94, R95). -/
def State.startSlotFrame (s : State) (k : SlotId) : State :=
  let s1 := s.withSlot k { s.slots[k] with sendPending := false }
  let s2 := s1.withSched { s.sched with snapshot := some (s.slots[k].snapshot k), cursor := k + 1 }
  let s3 := (s2.withLine (s.line.beginFrame none)).withRing { s.ring with silence := s.ring.silence.release }
  s3.reportFrameStarted k

/-- FIND_AND_SNAPSHOT (R16, R93): the frame of the slot found starts, or sending ends. -/
def execFindAndSnapshot (s : State) : Host.Outcome State Fault Refusal :=
  .next (if s.snapshotDue then
      match findPending s.sched.cursor s.slots with
      | some k => s.startSlotFrame k
      | none => s.sendingEnded.reportLink
    else s)

/-- A JOIN begins: the link enters JOINING (R70). -/
def State.beginJoin (s : State) (inviter : Addr) : State :=
  (s.beginRingFrame .join inviter).withRing
    { s.ring with link := .joining, awaited := some inviter, silence := s.ring.silence.release }

/-- A waiting TOKEN begins, to the successor of this moment: under a stop request the link does not enter PASSING
(R78, R86). For a stop taken after the awaited JOIN that successor is the joined node: R86 says both 'derived at the
moment the TOKEN begins' and 'from before the invitation', and the model takes the first (log 35). -/
def State.beginToken (s : State) : State :=
  match s.ring.successor with
  | some d => if s.ring.stopRequest then (s.endHolding).beginRingFrame .token d else s.passToken d .first
  | none => s

/-- The request that RING_FRAME_START begins (R37). -/
def State.startRequested (s : State) (w : Waiting) : State :=
  match w.kind with
  | .join a => (s.beginJoin a).reportLink
  | .token => s.beginToken.reportLink
  | .opportunity => s
  | .claimed => s

/-- The waiting request is a frame the ring controller asked for, with a node for it to go to. -/
def WaitKind.isRingFrame (successor : Option Addr) : WaitKind → Bool
  | .join _ => true
  | .token => successor.isSome
  | .opportunity => false
  | .claimed => false

/-- The start time of a ring controller's frame has come (R36, R37). During an activity it waits for the arrival. -/
def State.ringStartDue (s : State) : Bool :=
  s.waitKind.any (WaitKind.isRingFrame s.ring.successor) && s.startTimeCome

/-- RING_FRAME_START (R36, R37). -/
def execRingFrameStart (s : State) : Host.Outcome State Fault Refusal :=
  .next (match s.line.waiting with
    | some w => if s.ringStartDue then s.startRequested w else s
    | none => s)

/-- The frame of a snapshot has ended: reported, the snapshot discarded, frames left decreased, self-filed when set
(R96). -/
def State.endSlotFrame (s : State) (x : Snapshot) : State :=
  let s1 := s.reportFrameSent x.slot
  let s2 := s1.withSched { s.sched with snapshot := none, framesLeft := s.sched.framesLeft - 1 }
  let s3 := (s2.withRing s.ring.restartSilence).withLine s.line.endFrame
  if s.ring.selfFiling then s3.handOn (x.filing s.ring.ownAddress) else s3

/-- What follows the frame: a stop's TOKEN or OFF (R86, R103), or the next opportunity 4 bt later (R96). -/
def State.afterSlotFrame (s : State) : State :=
  if s.ring.stopRequest then s.afterStoppedFrame
  else if s.sched.holding && s.sched.sendingOpen then s.await (some (Waiting.fresh .opportunity Config.frameGap))
  else s

/-- The frame of a slot ends: it has been sent to its end (R36), and the filing path, when the frame is to be
self-filed, holds no request by then (R45, log 10). -/
def State.frameEndDue (s : State) : Bool :=
  s.sched.snapshot.isSome && s.frameDone && !(s.ring.selfFiling && s.filing.isSome)

/-- FRAME_END (R96). The frame that takes the link to OFF has its self-filing handed on here and filed by the filing's
own row, with the link OFF by then: the model's choice between R25 and R60 on one side and R45 on the other (log 27). -/
def execFrameEnd (s : State) : Host.Outcome State Fault Refusal :=
  .next (match s.sched.snapshot with
    | some x => if s.frameEndDue then (s.endSlotFrame x).afterSlotFrame.reportLink else s
    | none => s)

/-- The frame of the ring controller has ended: the transmitter is idle and the silence timer restarts (R36, R40,
R67). -/
def State.endRingFrame (s : State) : State :=
  (s.withLine s.line.endFrame).withRing s.ring.restartSilence

/-- The response window starts (R39). -/
def State.startWindow (s : State) : State := s.withRing { s.ring with window := .running 0 }

/-- The end of a frame a stop request finishes: after a TOKEN or a JOIN the link is OFF, after a CLAIM or an INVITE a
TOKEN follows when there is a successor (R86). -/
def State.stoppedFrameEnded (s : State) (kind : RingFrameKind) : State :=
  match kind with
  | .token => s.reachOff
  | .join => s.reachOff
  | .claim => s.afterStoppedFrame
  | .invite => s.afterStoppedFrame

/-- The end of a frame with no stop request: a CLAIM is followed by the holding's first opportunity, the others start
the response window (R37, R39, R69). -/
def State.ringFrameEnded (s : State) (kind : RingFrameKind) : State :=
  match kind with
  | .claim => s.await (some (Waiting.fresh .opportunity Config.frameGap))
  | .token => s.startWindow
  | .invite => s.startWindow
  | .join => s.startWindow

/-- What the end of a frame of the ring controller does, and the link's change handed on (R67, R84). -/
def State.finishRingFrame (s : State) (kind : RingFrameKind) : State :=
  (if s.ring.stopRequest then s.endRingFrame.stoppedFrameEnded kind else s.endRingFrame.ringFrameEnded kind).reportLink

/-- A frame of the ring controller ends: it has been sent to its end (R36). -/
def State.ringFrameEndDue (s : State) : Bool := s.line.ringFrame.isSome && s.frameDone

/-- RING_FRAME_END (R67). -/
def execRingFrameEnd (s : State) : Host.Outcome State Fault Refusal :=
  .next (match s.line.ringFrame with
    | some f => if s.ringFrameEndDue then s.finishRingFrame f.kind else s
    | none => s)

end Sys2Proof.Machine
end

