-- ==== Sys2Proof/Machine/Timers.lean ====
section
/-! DEFINITION. The meanings of the ring timers' expiries (R39, R40, R41, R69, R71, R78, R80, R81). An expiry acts when
its timer runs, not held, and has counted its bit times; before that it is not due (log 3). -/

namespace Sys2Proof.Machine

/-- The silence timer restarted at its expiry. -/
def State.restartSilence (s : State) : State := s.withRing { s.ring with silence := .running 0 }

/-- A claim: the link enters HOLDING and a CLAIM begins at once (R69). The CLAIM has no destination. -/
def State.claim (s : State) : State := (s.enterHolding none).beginRingFrame .claim 0

/-- What the silence timer's expiry does by link state (R68, R69, R72). -/
def State.silenceExpired (s : State) : State :=
  match s.ring.link with
  | .listen => if s.ring.listenOnly then s else s.claim
  | .member => s.claim
  | .off => s
  | .joining => s
  | .holding => s
  | .inviting => s
  | .passing => s
  | .withdrawn => s

/-- The silence timer has counted 64 + 16 × own address bit times (R40). -/
def State.silenceDue (s : State) : Bool :=
  s.ring.silence.expired (Config.silenceTimeout s.ring.ownAddress * s.line.divider)

/-- The response window has counted 24 bit times (R39). -/
def State.windowDue (s : State) : Bool := s.ring.window.expired (Config.responseWindow * s.line.divider)

/-- The lone pause has counted 48 bit times (R41). -/
def State.pauseDue (s : State) : Bool := s.ring.pause.expired (Config.lonePause * s.line.divider)

/-- SILENCE_TIMEOUT (R40, R69). -/
def execSilenceTimeout (s : State) : Host.Outcome State Fault Refusal :=
  .next (if s.silenceDue then s.restartSilence.silenceExpired.reportLink else s)

/-- The ring controller with the mark of the awaited node cleared (R80). -/
def Ring.clearAwaited (r : Ring) : Ring :=
  match r.awaited with
  | some a => { r with liveMap := clearMark r.liveMap a }
  | none => r

/-- The second attempt of a pass expires: the mark is cleared, and the pass goes to the next successor or a new holding
begins (R80). -/
def State.passFailed (s : State) : State :=
  let s1 := s.withRing s.ring.clearAwaited
  match s1.ring.successor with
  | some d => s1.passToken d .first
  | none => s1.startHolding 0

/-- An expiry in PASSING (R80). -/
def State.passExpired (s : State) : State :=
  match s.ring.attempt, s.ring.awaited with
  | .first, some d => s.passToken d .second
  | _, _ => s.passFailed

/-- An expiry in INVITING: the cursor advances, then a TOKEN to the successor at once, or the lone pause (R78). -/
def State.inviteExpired (s : State) : State :=
  let s1 := s.withRing s.ring.unanswered
  match s.ring.successor with
  | some d => s1.passToken d .first
  | none => s1.beginPause

/-- What the response window's expiry does by link state (R71, R78, R80). -/
def State.windowExpired (s : State) : State :=
  match s.ring.link with
  | .joining => s.unheardTo .listen
  | .inviting => s.inviteExpired
  | .passing => s.passExpired
  | .off => s
  | .listen => s
  | .member => s
  | .holding => s
  | .withdrawn => s

/-- RESPONSE_WINDOW_EXPIRY (R39). -/
def execResponseWindowExpiry (s : State) : Host.Outcome State Fault Refusal :=
  .next (if s.windowDue then
      (s.withRing { s.ring with window := .stopped }).windowExpired.reportLink
    else s)

/-- LONE_PAUSE_END: a new holding whose first opportunity comes at the end of the pause (R41, R81). -/
def execLonePauseEnd (s : State) : Host.Outcome State Fault Refusal :=
  .next (if s.pauseDue then (s.startHolding 0).reportLink else s)

end Sys2Proof.Machine
end

