-- ==== Sys2Proof/Machine/Dispatch.lean ====
section
/-! DEFINITION. The dispatch: one arm for each row of spec/opcode_table.json. -/

namespace Sys2Proof.Machine

def exec (i : Instr) (s : State) : Host.Outcome State Fault Refusal :=
  match i with
  | .powerOnReset cause => Sys2Proof.Machine.execPowerOnReset cause s
  | .deviceReset => Sys2Proof.Machine.execDeviceReset s
  | .engineReset run => Sys2Proof.Machine.execEngineReset run s
  | .runSet => Sys2Proof.Machine.execRunSet s
  | .runClear => Sys2Proof.Machine.execRunClear s
  | .statusWrite value => Sys2Proof.Machine.execStatusWrite value s
  | .ringGeometryWrite reg value => Sys2Proof.Machine.execRingGeometryWrite reg value s
  | .cmdTailWrite value => Sys2Proof.Machine.execCmdTailWrite value s
  | .evtHeadWrite value => Sys2Proof.Machine.execEvtHeadWrite value s
  | .notifyLevelWrite value => Sys2Proof.Machine.execNotifyLevelWrite value s
  | .notifyQuietWrite value => Sys2Proof.Machine.execNotifyQuietWrite value s
  | .registerWriteOther offset width => Sys2Proof.Machine.execRegisterWriteOther offset width s
  | .takeBegin => Sys2Proof.Machine.execTakeBegin s
  | .cqReadFail access => Sys2Proof.Machine.execCqReadFail access s
  | .nop => Sys2Proof.Machine.execNop s
  | .store => Sys2Proof.Machine.execStore s
  | .fetch => Sys2Proof.Machine.execFetch s
  | .send => Sys2Proof.Machine.execSend s
  | .cancel => Sys2Proof.Machine.execCancel s
  | .tableClear => Sys2Proof.Machine.execTableClear s
  | .linkStart => Sys2Proof.Machine.execLinkStart s
  | .linkStop => Sys2Proof.Machine.execLinkStop s
  | .mapRead part => Sys2Proof.Machine.execMapRead part s
  | .barrier => Sys2Proof.Machine.execBarrier s
  | .completionWrite => Sys2Proof.Machine.execCompletionWrite s
  | .linkNoticeWrite => Sys2Proof.Machine.execLinkNoticeWrite s
  | .readForNotice => Sys2Proof.Machine.execReadForNotice s
  | .eventWriteDone access => Sys2Proof.Machine.execEventWriteDone access s
  | .eventWriteFail access => Sys2Proof.Machine.execEventWriteFail access s
  | .busResponseTimeout access => Sys2Proof.Machine.execBusResponseTimeout access s
  | .quietTimerExpiry => Sys2Proof.Machine.execQuietTimerExpiry s
  | .activityStart clocks => Sys2Proof.Machine.execActivityStart clocks s
  | .dataFrame source key payload => Sys2Proof.Machine.execDataFrame source key payload s
  | .solicitFrame source key => Sys2Proof.Machine.execSolicitFrame source key s
  | .tokenFrame source destination => Sys2Proof.Machine.execTokenFrame source destination s
  | .inviteFrame source destination => Sys2Proof.Machine.execInviteFrame source destination s
  | .joinFrame source destination => Sys2Proof.Machine.execJoinFrame source destination s
  | .claimFrame source => Sys2Proof.Machine.execClaimFrame source s
  | .foreignFrame => Sys2Proof.Machine.execForeignFrame s
  | .garbledFrame => Sys2Proof.Machine.execGarbledFrame s
  | .fileData => Sys2Proof.Machine.execFileData s
  | .fileSolicit => Sys2Proof.Machine.execFileSolicit s
  | .silenceTimeout => Sys2Proof.Machine.execSilenceTimeout s
  | .responseWindowExpiry => Sys2Proof.Machine.execResponseWindowExpiry s
  | .lonePauseEnd => Sys2Proof.Machine.execLonePauseEnd s
  | .sendOpportunity => Sys2Proof.Machine.execSendOpportunity s
  | .findAndSnapshot => Sys2Proof.Machine.execFindAndSnapshot s
  | .ringFrameStart => Sys2Proof.Machine.execRingFrameStart s
  | .frameEnd => Sys2Proof.Machine.execFrameEnd s
  | .ringFrameEnd => Sys2Proof.Machine.execRingFrameEnd s
  | .takeEnd access record => Sys2Proof.Machine.execTakeEnd access record s
  | .leaveReset => Sys2Proof.Machine.execLeaveReset s

end Sys2Proof.Machine
end

