-- ==== Sys2Proof/Machine/Own.lean ====
section
/-! DEFINITION. The rows the part takes of itself, when nothing from outside waits in the queue (log 2): those whose
time has come by the part's own state. The rows that come from outside, as the host's register writes, the line's
activities and the ends of bus accesses, come by the queue alone. -/

namespace Sys2Proof.Machine

/-- The row that files a request (R47, R54). -/
def FilingRequest.row : FilingRequest → Instr
  | .data _ _ _ => .fileData
  | .solicit _ _ => .fileSolicit

/-- The row that executes a command; a MAP_READ makes its reads together (R128 to R145). -/
def Command.row : Command → Instr
  | .nop => .nop
  | .store _ => .store
  | .fetch _ _ => .fetch
  | .send _ _ => .send
  | .cancel _ => .cancel
  | .tableClear => .tableClear
  | .linkStart _ => .linkStart
  | .linkStop => .linkStop
  | .mapRead => .mapRead .rest
  | .barrier => .barrier

/-- A row when its time has come. -/
def rowWhen (due : Bool) (row : Instr) : Option Instr := if due then some row else none

/-- The filing that waits, when its turn at the slot table has come (R45). -/
def State.filingRow (s : State) : Option Instr :=
  if s.turn .filing then s.filing.map FilingRequest.row else none

/-- The checked command, when its execution step may be made (R111). -/
def State.commandRow (s : State) : Option Instr :=
  match s.engine.checked with
  | some c => rowWhen (s.commandDue c) c.row
  | none => none

/-- The part's own rows whose time has come, in the order the model takes them when several have (log 2). Each is taken
before the next clock: an operation of the slot table takes no clock, where R45 says only that it ends in less than 13
µs and R37 and R92 let a frame start later by the rest of one under way, so that no frame starts later than its start
time for that (log 36). -/
def State.ownRows (s : State) : List (Option Instr) :=
  [rowWhen s.snapshotDue .findAndSnapshot,
    s.filingRow,
    s.commandRow,
    rowWhen s.noticeDue .readForNotice,
    rowWhen s.frameEndDue .frameEnd,
    rowWhen s.ringFrameEndDue .ringFrameEnd,
    rowWhen s.opportunityDue .sendOpportunity,
    rowWhen s.ringStartDue .ringFrameStart,
    rowWhen s.windowDue .responseWindowExpiry,
    rowWhen s.pauseDue .lonePauseEnd,
    rowWhen s.silenceDue .silenceTimeout,
    rowWhen (s.timeoutDue .commandRead) (.busResponseTimeout .commandRead),
    rowWhen (s.timeoutDue .eventWrite) (.busResponseTimeout .eventWrite),
    rowWhen s.completionDue .completionWrite,
    rowWhen s.linkNoticeDue .linkNoticeWrite,
    rowWhen s.canTake .takeBegin]

/-- The row of its own that the part takes next, if one is due. While RESET is low it takes none (R168, log 11). -/
def State.ownRow (s : State) : Option Instr := if s.resetLow then none else s.ownRows.findSome? id

end Sys2Proof.Machine
end

