-- ==== Sys2Proof/Machine/Step.lean ====
section
/-! DEFINITION. The step: the command at the front of the queue runs on the state with the queue's rest; on an empty
queue the part takes the row of its own that is due, or, when none is, one period of the reference clock passes (log
2). -/

namespace Sys2Proof.Machine

/-- The state with another queue of commands. -/
def State.withPending (s : State) (q : List Instr) : State := { s with pending := q }

/-- The command at the front of the queue runs; with none, the part's own row that is due, or else the clock. -/
def step (s : State) : Host.Outcome State Fault Refusal :=
  match s.pending with
  | [] =>
    match s.ownRow with
    | some c => exec c s
    | none => .next s.tick
  | c :: rest => exec c (s.withPending rest)

/-- `s` with the command a table word spells at the front of its queue; no word spells one. -/
def State.withFetchWord (s : State) (nbits w : Nat) : State :=
  match decodeTableWord nbits w with
  | some c => s.withPending (c :: s.pending)
  | none => s

end Sys2Proof.Machine
end

