-- ==== Sys2Proof/Safety.lean ====
section
/-! DEFINITION. What holds of the part between its steps: the invariants the manual states, block by block, and the
names the statements use for arrivals, for the state two steps share, and for the open list's changes. -/

namespace Sys2Proof.Machine

/-! ### The slot table and the notice list -/

/-- A slot record as the manual says it can stand: its bytes beyond the length are zero (R2), out of service it has no
status (R5), overrun needs fresh (R5), a PUBLISH slot in service has no filing (R4, R55), a fresh slot has a filing
record (R3), and source and filing number are present together (R3). -/
abbrev Slot.ok (x : Slot) : Prop :=
  x.length ≤ 16 ∧ (∀ i : Fin 16, x.length ≤ i.val → x.data[i] = 0)
    ∧ (x.inService = false → x.fresh = false ∧ x.overrun = false ∧ x.sendPending = false)
    ∧ (x.overrun = true → x.fresh = true)
    ∧ (x.inService = true → x.role = .publish → x.fresh = false ∧ x.source = none ∧ x.filingNumber = none)
    ∧ x.source.isSome = x.filingNumber.isSome
    ∧ (x.fresh = true → x.source.isSome = true)

/-- Every slot record stands as the manual says (R1 to R5). -/
abbrev State.tableOk (s : State) : Prop := ∀ k : SlotId, s.slots[k].ok

/-- A filing request carries at most 16 payload bytes (R44). -/
def FilingRequest.ok : FilingRequest → Bool
  | .data _ _ payload => decide (payload.length ≤ 16)
  | .solicit _ _ => true

/-- The request on its way is one R44 admits. -/
abbrev State.filingOk (s : State) : Prop := s.filing.all FilingRequest.ok = true

/-- The claims at the slot table controller (R9): none waits twice; the filing path's waits exactly while it holds a
request (R45), and the queue engine's exactly while a command that does slot work is to be executed (the model's choice,
logs 5 and 28). -/
abbrev State.claimsOk (s : State) : Prop :=
  s.claims.Nodup ∧ (.filing ∈ s.claims ↔ s.filing.isSome = true)
    ∧ (.command ∈ s.claims ↔ s.engine.checked.any Command.usesTable = true)

/-- The notice list holds no slot twice (R57), each is in service (R5), and each SUBSCRIBE slot in it is fresh (R153). -/
abbrev State.noticesOk (s : State) : Prop :=
  s.events.noticeList.Nodup
    ∧ ∀ k ∈ s.events.noticeList,
      s.slots[k].inService = true ∧ (s.slots[k].role = .subscribe → s.slots[k].fresh = true)

/-! ### The queue engine and the event ring -/

/-- An entry as R115 and R116 admit it: a taking entry is immediate as yet (the model's choice, log 6); a waiting one
is a long command; an attached one a confirm-SEND; a done one carries a result only with OK, SENT or TOO_LATE (R125). -/
def Entry.ok (e : Entry) : Bool :=
  decide (e.index < 1024) &&
  match e.state with
  | .taking => decide (e.kind = .immediate)
  | .waiting =>
    decide (e.kind = .long) &&
      ((decide (e.code = CommandCode.send.byte) && e.slot.isSome) || decide (e.code = CommandCode.linkStop.byte)
        || decide (e.code = CommandCode.barrier.byte))
  | .attached => decide (e.kind = .long) && decide (e.code = CommandCode.send.byte) && e.slot.isSome
  | .done c => c.status.carriesResult || decide (c.result = .none)

/-- The fault codes an engine state can show (R108). -/
def EngineState.shows : EngineState → FaultCode → Bool
  | .stopped, .none => true
  | .stopped, .badConfig _ => true
  | .running, .none => true
  | .faulted, .cqRead => true
  | .faulted, .eqWrite => true
  | _, _ => false

/-- The queue engine's state is one of the table of R108, and run reads 1 in RUNNING and 0 in STOPPED (R162). -/
abbrev Engine.stateOk (e : Engine) : Prop :=
  e.state.shows e.fault = true ∧ (e.state = .running → e.run = true) ∧ (e.state = .stopped → e.run = false)

/-- The open command list: one credit for each entry (R119), at most 16 entries, at most 15 long (R115), every entry one
that R115 admits, and no BARRIER waiting with no earlier entry (R117). -/
abbrev Engine.listOk (e : Engine) : Prop :=
  e.credits = e.openList.length ∧ e.openList.length ≤ Config.maxOpen ∧ longCount e.openList ≤ Config.maxLong
    ∧ (∀ x ∈ e.openList, x.ok = true) ∧ e.openList.head?.all (fun x => !x.waitsAs .barrier) = true

/-- The take under way: its entry is the last of the list and the only one in state taking (R111), and a checked
record's entry has its code and slot; a command that an engine reset left to be executed has no entry, and no other is
taken before it (R122). That a checked record's entry stays in state taking is the model's choice (log 5). Only a
MAP_READ has reads made. -/
abbrev Engine.takeOk (e : Engine) : Prop :=
  (e.openList.dropLast.all fun x => !x.isTaking) = true
    ∧ e.openList.getLast?.any Entry.isTaking = (e.cmdRead.isSome || (e.checked.isSome && !e.openList.isEmpty))
    ∧ (e.cmdRead.isSome = true → e.checked = none)
    ∧ (e.checked ≠ some .mapRead → e.mapReads = MapReads.empty)
    ∧ e.checked.all (fun c => c.wf && e.openList.all fun x =>
        !x.isTaking || (decide (x.code = c.code.byte) && decide (x.slot = c.slot))) = true

/-- The event write in flight is 32 bytes long, and a completion's entry is in the open list, done (R149). -/
def State.writeOk (s : State) : Bool :=
  match s.events.write with
  | some w =>
    decide (w.record.length = 32) &&
      match w.source with
      | .completion position => ((s.engine.openList[position]?).bind Entry.completion).isSome
      | .notice => true
  | none => true

/-- The accesses in flight have different numbers, each given out before now (R165, log 7). -/
abbrev State.accessesOk (s : State) : Prop :=
  (∀ r, s.engine.cmdRead = some r → r.access < s.accessCount)
    ∧ (∀ w, s.events.write = some w → w.access < s.accessCount)
    ∧ ∀ r w, s.engine.cmdRead = some r → s.events.write = some w → r.access ≠ w.access

/-- Credits and room: reserved credits never exceed the free entries (R119), a notice being written has its room beyond
the credits (R149), and the ring settings pass their checks while RUNNING or with commands open (R106, R109). -/
abbrev State.creditsOk (s : State) : Prop :=
  s.engine.credits ≤ s.freeEntries
    ∧ (s.noticeInFlight = true → s.engine.credits = 0 ∨ s.engine.credits < s.freeEntries)
    ∧ (s.engine.state = .running ∨ s.engine.openList ≠ [] → s.runCheck = none)

/-- The notify registers hold values in their ranges (R158), and a pending link notice counts 1 to 255 changes (R155). -/
abbrev State.registersOk (s : State) : Prop :=
  s.regs.notifyLevel ≤ 4096 ∧ s.regs.notifyQuiet ≤ 65535
    ∧ s.events.linkNotice.all (fun n => decide (1 ≤ n.changes) && decide (n.changes ≤ 255)) = true

/-! ### The ring controller, the line unit and the send scheduler -/

/-- The link states in which the part awaits an answer (R64). -/
def LinkState.awaits : LinkState → Bool
  | .joining => true
  | .inviting => true
  | .passing => true
  | .off => false
  | .listen => false
  | .member => false
  | .holding => false
  | .withdrawn => false

/-- The link states in which the part never transmits (R68, R72, R83, R87). -/
def LinkState.silent : LinkState → Bool
  | .off => true
  | .listen => true
  | .member => true
  | .withdrawn => true
  | .joining => false
  | .holding => false
  | .inviting => false
  | .passing => false

/-- The ring controller: its own mark while the link runs (R65), the unheard count and WITHDRAWN (R82), the awaited node
(R64), a pass or an INVITE never to itself (R66). -/
abbrev Ring.nodeOk (r : Ring) : Prop :=
  (r.link ≠ .off → marked r.liveMap r.ownAddress = true)
    ∧ r.unheard ≤ Config.unheardLimit ∧ (r.unheard = Config.unheardLimit ↔ r.link = .withdrawn)
    ∧ r.awaited.isSome = r.link.awaits
    ∧ (r.link = .passing ∨ r.link = .inviting → r.awaited ≠ some r.ownAddress)

/-- The ring timers: none runs in OFF and WITHDRAWN, the silence timer does in every other state (R40, R83, R87), the
response window only while an answer is awaited (R39), the lone pause only in HOLDING (R81), neither under a stop
request (R86). -/
abbrev Ring.timersOk (r : Ring) : Prop :=
  r.silence.isStopped = !r.link.runsTimers
    ∧ (r.window.isStopped = false → r.link.awaits = true)
    ∧ (r.pause.isStopped = false → r.link = .holding)
    ∧ (r.stopRequest = true → r.link.silent = false ∧ r.window.isStopped = true ∧ r.pause.isStopped = true)

/-- The options are in their ranges (Table 4-1), a listen-only part is in OFF or LISTEN (R68), and every link change has
been handed on (R84). -/
abbrev Ring.optionsOk (r : Ring) : Prop :=
  1 ≤ r.budget ∧ r.budget ≤ 15 ∧ r.inviteInterval ≤ 255 ∧ r.inviteCountdown ≤ 255
    ∧ (r.listenOnly = true → r.link = .off ∨ r.link = .listen)
    ∧ r.changed = false

/-- The link state a frame of the ring controller goes out in (R69, R70, R74, R86); a CLAIM opens a holding. -/
def RingFrame.fits (f : RingFrame) (link : LinkState) (stop holding : Bool) : Bool :=
  match f.kind with
  | .claim => decide (link = .holding) && holding
  | .join => decide (link = .joining)
  | .invite => decide (link = .inviting)
  | .token => decide (link = .passing) || (stop && (decide (link = .holding) || decide (link = .inviting)))

/-- The link state a waiting request stands in (R70, R78, R86, R91); a JOIN waits
only without listen-only (R68), a TOKEN only with a successor to go to and the response window settled. -/
def Waiting.fits (w : Waiting) (r : Ring) (c : Scheduler) : Bool :=
  match w.kind with
  | .opportunity => c.holding && !r.stopRequest
  | .claimed => c.holding && !r.stopRequest && decide (1 ≤ c.framesLeft)
  | .join _ => !r.listenOnly && (decide (r.link = .listen) || decide (r.link = .member))
  | .token =>
    r.successor.isSome && r.window.isStopped
      && (decide (r.link = .inviting) || (r.stopRequest && decide (r.link = .holding)))

/-- What is on the line: at most one frame of the part, fitting the link state (R35, R36, R90), none in the silent
states; while it lasts nothing waits, nothing is received and no window or pause runs. -/
abbrev State.lineOk (s : State) : Prop :=
  (s.line.receiver = .stopped ↔ s.ring.link = .off)
    ∧ (s.transmitting = true → s.ring.link.silent = false ∧ s.line.waiting = none ∧ s.line.receiver ≠ .assembling
        ∧ s.ring.window.isStopped = true ∧ s.ring.pause.isStopped = true)
    ∧ (s.sched.snapshot.isSome = true → s.line.ringFrame = none ∧ s.sched.holding = true)
    ∧ s.line.ringFrame.all (fun f => f.fits s.ring.link s.ring.stopRequest s.sched.holding) = true
    ∧ s.line.waiting.all (fun w => w.fits s.ring s.sched) = true

/-- The send scheduler: a holding only in HOLDING and outside the lone pause, sending open in it (R91, R97), frames
left at most 15 and 0 without a holding (R90, R102), one left for the frame in flight (R92), a stop request only with
the ring controller's (R103). -/
abbrev State.sendingOk (s : State) : Prop :=
  (s.sched.holding = true → s.ring.link = .holding ∧ s.ring.pause.isStopped = true ∧ s.sched.sendingOpen = true)
    ∧ s.sched.framesLeft ≤ 15 ∧ (s.sched.holding = false → s.sched.framesLeft = 0)
    ∧ (s.sched.snapshot.isSome = true → 1 ≤ s.sched.framesLeft)
    ∧ (s.sched.stopRequest = true → s.ring.stopRequest = true)
    ∧ (s.ring.stopRequest = true → s.ring.link = .holding → s.sched.stopRequest = true)

/-- The part is never stuck with the token or an answer to wait for: in HOLDING, JOINING, INVITING and PASSING a frame
is in flight, or a request waits for its start time, or the response window or the lone pause runs (R70, R74, R78,
R79, R81). A low RESET pulse that cuts a frame short and does not reset the part can leave it so (log 11). -/
abbrev State.progressOk (s : State) : Prop :=
  s.ring.link.silent = false →
    s.transmitting = true ∨ s.line.waiting.isSome = true ∨ s.ring.window.isStopped = false
      ∨ s.ring.pause.isStopped = false

/-- All of it but `progressOk`. -/
abbrev State.Inv (s : State) : Prop :=
  (s.tableOk ∧ s.filingOk ∧ s.claimsOk ∧ s.noticesOk)
    ∧ (s.engine.stateOk ∧ s.engine.listOk ∧ s.engine.takeOk ∧ s.writeOk = true ∧ s.accessesOk ∧ s.creditsOk ∧ s.registersOk)
    ∧ (s.ring.nodeOk ∧ s.ring.timersOk ∧ s.ring.optionsOk)
    ∧ s.lineOk ∧ s.sendingOk

/-! ### Names for the statements -/

/-- A frame of the part has been sent to its end: every bit time of it has passed (R28, R36). -/
abbrev State.sentToEnd (s : State) : Prop :=
  ∃ f, s.frameInFlight = some f ∧ f.duration * s.line.divider ≤ s.line.txClocks

/-- A waiting request starts now: its gap has passed, no activity is on the line, and the part is not sending (R36,
R37). -/
abbrev State.startsNow (s : State) (w : Waiting) : Prop :=
  w.gap * s.line.divider ≤ w.elapsed ∧ s.line.receiver ≠ .assembling ∧ s.transmitting = false

/-- When each row's rule lets it be taken (log 1): an active level while the line is idle, a frame row while the
receiver is assembling, an answer of the bus for the access in flight, an expiry when its timer has counted to its
limit, a start at its start time, an end when the frame has been sent, a command when it is the checked one, slot work
at its turn. -/
def State.rowDue (s : State) : Instr → Prop
  | .powerOnReset _ => True
  | .leaveReset => True
  | .quietTimerExpiry => True
  | .deviceReset => s.resetLow = false
  | .engineReset _ => s.resetLow = false
  | .runSet => s.resetLow = false
  | .runClear => s.resetLow = false
  | .statusWrite _ => s.resetLow = false
  | .ringGeometryWrite _ _ => s.resetLow = false
  | .cmdTailWrite _ => s.resetLow = false
  | .evtHeadWrite _ => s.resetLow = false
  | .notifyLevelWrite _ => s.resetLow = false
  | .notifyQuietWrite _ => s.resetLow = false
  | .registerWriteOther o w => s.resetLow = false ∧ WellFormed (.registerWriteOther o w)
  | .takeBegin =>
    s.engine.state = .running ∧ s.engine.cmdRead = none ∧ s.engine.checked = none ∧ s.engine.head ≠ s.regs.cmdTail
      ∧ s.engine.openList.length < 16 ∧ s.engine.credits < s.freeEntries
      ∧ (∀ w, s.events.write = some w → w.source ≠ .notice) ∧ s.resetLow = false
  | .takeEnd n _ => ∃ r, s.engine.cmdRead = some r ∧ r.access = n
  | .cqReadFail n => ∃ r, s.engine.cmdRead = some r ∧ r.access = n
  | .nop => s.engine.checked = some .nop
  | .store => (∃ o, s.engine.checked = some (.store o)) ∧ s.turn .command = true
  | .fetch => (∃ k b, s.engine.checked = some (.fetch k b)) ∧ s.turn .command = true
  | .send =>
    ∃ k b, s.engine.checked = some (.send k b) ∧
      (s.turn .command = true ∨ b = true ∧ 15 ≤ s.engine.openList.countP fun e => e.kind = .long)
  | .cancel => (∃ k, s.engine.checked = some (.cancel k)) ∧ s.turn .command = true
  | .tableClear => s.engine.checked = some .tableClear ∧ s.turn .command = true
  | .linkStart => ∃ o, s.engine.checked = some (.linkStart o)
  | .linkStop => s.engine.checked = some .linkStop
  | .mapRead _ => s.engine.checked = some .mapRead
  | .barrier => s.engine.checked = some .barrier
  | .completionWrite =>
    s.events.write = none ∧ s.engine.state ≠ .faulted ∧ (∃ e ∈ s.engine.openList, e.completion ≠ none)
      ∧ s.resetLow = false
  | .linkNoticeWrite =>
    s.events.write = none ∧ s.events.linkNotice ≠ none ∧ s.engine.state = .running
      ∧ s.engine.credits < s.freeEntries ∧ (∀ e ∈ s.engine.openList, e.completion = none) ∧ s.resetLow = false
  | .readForNotice => s.turn .notice = true ∧ s.resetLow = false
  | .eventWriteDone n => ∃ w, s.events.write = some w ∧ w.access = n
  | .eventWriteFail n => ∃ w, s.events.write = some w ∧ w.access = n
  | .busResponseTimeout .commandRead => ∃ r, s.engine.cmdRead = some r ∧ 80000 ≤ r.clocks
  | .busResponseTimeout .eventWrite => ∃ w, s.events.write = some w ∧ 80000 ≤ w.clocks
  | .activityStart n => s.lineActive = 0 ∧ n ≠ 0
  | .dataFrame _ _ payload => s.hears = true ∧ (payload.length ≤ 16 → s.filing = none)
  | .solicitFrame _ _ => s.hears = true ∧ s.filing = none
  | .tokenFrame _ _ => s.hears = true
  | .inviteFrame _ _ => s.hears = true
  | .joinFrame _ _ => s.hears = true
  | .claimFrame _ => s.hears = true
  | .foreignFrame => s.hears = true
  | .garbledFrame => s.hears = true
  | .fileData => (∃ a k p, s.filing = some (.data a k p)) ∧ s.turn .filing = true
  | .fileSolicit => (∃ a k, s.filing = some (.solicit a k)) ∧ s.turn .filing = true
  | .silenceTimeout =>
    ∃ c, s.ring.silence = .running c ∧ (64 + 16 * s.ring.ownAddress.toNat) * s.line.divider ≤ c
  | .responseWindowExpiry => ∃ c, s.ring.window = .running c ∧ 24 * s.line.divider ≤ c
  | .lonePauseEnd => ∃ c, s.ring.pause = .running c ∧ 48 * s.line.divider ≤ c
  | .sendOpportunity =>
    ∃ w, s.line.waiting = some w ∧ w.kind = .opportunity ∧ s.startsNow w ∧ s.sched.holding = true
      ∧ s.sched.sendingOpen = true ∧ s.sched.stopRequest = false
  | .findAndSnapshot => s.waitKind = some .claimed ∧ s.transmitting = false
  | .ringFrameStart =>
    ∃ w, s.line.waiting = some w ∧ s.startsNow w ∧ ((∃ a, w.kind = .join a) ∨ w.kind = .token ∧ s.ring.successor ≠ none)
  | .frameEnd => s.sched.snapshot ≠ none ∧ s.sentToEnd ∧ (s.ring.selfFiling = true → s.filing = none)
  | .ringFrameEnd => s.line.ringFrame ≠ none ∧ s.sentToEnd

/-- The rows the part takes of itself: all but the resets, the register writes, what arrives on the line, and the
answers of the host bus (log 2). A MAP_READ's reads it makes together (log 15). -/
inductive OwnRow : Instr → Prop
  | takeBegin : OwnRow .takeBegin
  | nop : OwnRow .nop
  | store : OwnRow .store
  | fetch : OwnRow .fetch
  | send : OwnRow .send
  | cancel : OwnRow .cancel
  | tableClear : OwnRow .tableClear
  | linkStart : OwnRow .linkStart
  | linkStop : OwnRow .linkStop
  | mapRead : OwnRow (.mapRead .rest)
  | barrier : OwnRow .barrier
  | completionWrite : OwnRow .completionWrite
  | linkNoticeWrite : OwnRow .linkNoticeWrite
  | readForNotice : OwnRow .readForNotice
  | busResponseTimeout (access : BusAccess) : OwnRow (.busResponseTimeout access)
  | fileData : OwnRow .fileData
  | fileSolicit : OwnRow .fileSolicit
  | silenceTimeout : OwnRow .silenceTimeout
  | responseWindowExpiry : OwnRow .responseWindowExpiry
  | lonePauseEnd : OwnRow .lonePauseEnd
  | sendOpportunity : OwnRow .sendOpportunity
  | findAndSnapshot : OwnRow .findAndSnapshot
  | ringFrameStart : OwnRow .ringFrameStart
  | frameEnd : OwnRow .frameEnd
  | ringFrameEnd : OwnRow .ringFrameEnd

/-- The receiver reports a garbled frame at the last of these levels: before it nothing, and then whatever follows
(R34). -/
abbrev garbledAt (levels : List Bool) (cause : GarbleCause) : Prop :=
  receive levels.dropLast = .incomplete ∧ ∀ more, receive (levels ++ more) = .garbled cause

/-- What a frame row brings: the arrival the ring controller takes and the filing request the filing path hands on. A
frame whose length or destination is out of range is garbled (R33, R34, R44, R67). -/
inductive ArrivesAs : Instr → Arrival → Option FilingRequest → Prop
  | data (source : Addr) (key : Key) (payload : List Byte) : payload.length ≤ 16 →
      ArrivesAs (.dataFrame source key payload) (.content source) (some (.data source key payload))
  | dataLong (source : Addr) (key : Key) (payload : List Byte) : 16 < payload.length →
      ArrivesAs (.dataFrame source key payload) .garbled none
  | solicit (source : Addr) (key : Key) :
      ArrivesAs (.solicitFrame source key) (.content source) (some (.solicit source key))
  | token (source : Addr) (d : Byte) : d.toNat ≤ 31 →
      ArrivesAs (.tokenFrame source d) (.token source (d.setWidth 5)) none
  | tokenHigh (source : Addr) (d : Byte) : 31 < d.toNat → ArrivesAs (.tokenFrame source d) .garbled none
  | invite (source : Addr) (d : Byte) : d.toNat ≤ 31 →
      ArrivesAs (.inviteFrame source d) (.invite source (d.setWidth 5)) none
  | inviteHigh (source : Addr) (d : Byte) : 31 < d.toNat → ArrivesAs (.inviteFrame source d) .garbled none
  | join (source : Addr) (d : Byte) : d.toNat ≤ 31 →
      ArrivesAs (.joinFrame source d) (.join source (d.setWidth 5)) none
  | joinHigh (source : Addr) (d : Byte) : 31 < d.toNat → ArrivesAs (.joinFrame source d) .garbled none
  | claim (source : Addr) : ArrivesAs (.claimFrame source) (.content source) none
  | foreign : ArrivesAs .foreignFrame .foreign none
  | garbled : ArrivesAs .garbledFrame .garbled none

/-- The arrival can be reported: the receiver is assembling and not held, and a frame for the filing path finds it empty
(R32, R35, R45). -/
abbrev State.takesArrival (s : State) (r : Option FilingRequest) : Prop := s.hears = true ∧ (r ≠ none → s.filing = none)

/-- The state after a filing request, when there is one, is handed on (R45). -/
def State.handOnOf (s : State) (r : Option FilingRequest) : State :=
  match r with
  | some r => s.handOn r
  | none => s

/-- The open list with its taking entry given a kind and a state: how an execution step ends (R116, R125). -/
def settle (kind : EntryKind) (state : EntryState) (l : List Entry) : List Entry :=
  l.map fun e => if e.state = .taking then { e with kind := kind, state := state } else e

/-- Done with a status and no result. -/
abbrev doneWith (st : Status) : EntryState := .done ⟨st, .none⟩

/-- The open list with every waiting entry of a command done with a status (R117). -/
def endWaits (c : CommandCode) (st : Status) (l : List Entry) : List Entry :=
  l.map fun e => if e.state = .waiting ∧ e.code = c.byte then { e with state := doneWith st } else e

/-- The open list with every waiting confirm-SEND on slot `k` done with a status (R117). -/
def endSends (k : SlotId) (st : Status) (l : List Entry) : List Entry :=
  l.map fun e =>
    if e.state = .waiting ∧ e.code = CommandCode.send.byte ∧ e.slot = some k then { e with state := doneWith st } else e

/-- The checks of a run, by the cause each reports when it fails (the table of R109). -/
def State.checkFails (s : State) : ConfigCause → Prop
  | .cmdBase => ¬ 64 ∣ s.regs.cmdBaseLo.toNat
  | .cmdSize => ¬ (3 ≤ s.regs.cmdSize.toNat ∧ s.regs.cmdSize.toNat ≤ 10)
  | .cmdIndex => ¬ (s.regs.cmdTail < 2 ^ s.regs.cmdSize.toNat ∧ s.engine.head < 2 ^ s.regs.cmdSize.toNat)
  | .evtBase => ¬ 32 ∣ s.regs.evtBaseLo.toNat
  | .evtSize => ¬ (5 ≤ s.regs.evtSize.toNat ∧ s.regs.evtSize.toNat ≤ 12)
  | .evtIndex => ¬ (s.regs.evtHead < 2 ^ s.regs.evtSize.toNat ∧ s.events.tail < 2 ^ s.regs.evtSize.toNat)

/-- The register writes: the rows the host port answers (R160, R162). -/
inductive RegisterWrite : Instr → Prop
  | deviceReset : RegisterWrite .deviceReset
  | engineReset (run : Bool) : RegisterWrite (.engineReset run)
  | runSet : RegisterWrite .runSet
  | runClear : RegisterWrite .runClear
  | status (value : Word) : RegisterWrite (.statusWrite value)
  | geometry (reg : GeometryReg) (value : Word) : RegisterWrite (.ringGeometryWrite reg value)
  | cmdTail (value : Word) : RegisterWrite (.cmdTailWrite value)
  | evtHead (value : Word) : RegisterWrite (.evtHeadWrite value)
  | notifyLevel (value : Word) : RegisterWrite (.notifyLevelWrite value)
  | notifyQuiet (value : Word) : RegisterWrite (.notifyQuietWrite value)
  | other (offset : Nat) (width : AccessWidth) : RegisterWrite (.registerWriteOther offset width)

end Sys2Proof.Machine
end

