-- ==== Sys2Proof/Certificates/Slice0/Obligations.lean ====
section
/-! DEFINITION. The statements for the provers, in the order of the spec's chapters: the step, resets, registers, the
queue engine, the ten commands, the event writer, arrivals, filing, timers, sending, the line, and the invariants. -/

open Sys2Proof Sys2Proof.Machine

/-! ### The step -/

/-- A step runs the command at the front of the queue on the state with the queue's rest. -/
def Obligations.StepRunsFrontCommand : Prop :=
  ∀ (c : Instr) (rest : List Instr) (s : State), step (s.withPending (c :: rest)) = exec c (s.withPending rest)

/-- On an empty queue the part takes a row of its own that is due, and when none is, one period of the 40 MHz clock
passes (the model's choice, log 2): so no clock passes over an expiry, a start or an end that has come, nor over slot
work, an operation of the slot table taking no clock (the model's choice, log 36). In the clock
the counters that run advance by one, each up to its limit, a stopped or held timer stays, and nothing else changes;
the 2 bt of idle line that a hunting receiver waits for are counted from the line's return to the idle level (R32, log
8), the 4 bt after the part's own frame from its end (R37). While RESET is low neither happens. -/
def Obligations.EmptyQueueIsOwnRowOrClock : Prop :=
  ∀ s : State, s.pending = [] →
    (s.resetLow = true → step s = .next s) ∧
    (s.resetLow = false → (∃ c, OwnRow c ∧ s.rowDue c) → ∃ c, OwnRow c ∧ s.rowDue c ∧ step s = exec c s) ∧
    (s.resetLow = false → (∀ c, OwnRow c → ¬ s.rowDue c) →
      step s = .next { s with
        line.idleClocks :=
          if s.line.receiver = .hunting ∧ s.transmitting = false then
            if s.lineActive = 0 then
              if s.line.idleClocks < 2 * s.line.divider then s.line.idleClocks + 1 else s.line.idleClocks
            else 0
          else s.line.idleClocks
        line.gapClocks :=
          if s.line.gapClocks < 4 * s.line.divider then s.line.gapClocks + 1 else s.line.gapClocks
        line.txClocks :=
          match s.frameInFlight with
          | some f =>
            if s.line.txClocks < f.duration * s.line.divider then s.line.txClocks + 1 else s.line.txClocks
          | none => s.line.txClocks
        line.waiting := s.line.waiting.map fun w =>
          { w with elapsed := if w.elapsed < w.gap * s.line.divider then w.elapsed + 1 else w.elapsed }
        ring.window :=
          match s.ring.window with
          | .running c => .running (if c < 24 * s.line.divider then c + 1 else c)
          | .held c => .held c
          | .stopped => .stopped
        ring.silence :=
          match s.ring.silence with
          | .running c => .running (if c < (64 + 16 * s.ring.ownAddress.toNat) * s.line.divider then c + 1 else c)
          | .held c => .held c
          | .stopped => .stopped
        ring.pause :=
          match s.ring.pause with
          | .running c => .running (if c < 48 * s.line.divider then c + 1 else c)
          | .held c => .held c
          | .stopped => .stopped
        engine.cmdRead := s.engine.cmdRead.map fun r =>
          { r with clocks := if r.clocks < 80000 then r.clocks + 1 else r.clocks }
        events.quietClocks :=
          if s.events.quietClocks < 65535 * 40 then s.events.quietClocks + 1 else s.events.quietClocks
        events.write := s.events.write.map fun w =>
          { w with clocks := if w.clocks < 80000 then w.clocks + 1 else w.clocks }
        lineActive := s.lineActive - 1 })

/-- Every command answers a next state, from every state (a row that is not due changes nothing: the model's choice,
log 1); it leaves the queue as it was, resets included (the model's choice, log 12), and only POWER_ON_RESET draws a
free value (log 11). -/
def Obligations.EveryCommandAnswersNext : Prop :=
  ∀ (c : Instr) (s : State), ∃ t, exec c s = .next t ∧ t.pending = s.pending ∧
    ((∀ cause, c ≠ .powerOnReset cause) → t.freeCount = s.freeCount)

/-- A row whose rule's conditions do not hold changes nothing (the model's choice, log 1): an expiry, a start or an
end before its time (R36, R37, R39 to R41, R166), a frame with no activity under way (R32), an answer for an access
that is not the one in flight (R122, R149, R163, R166, R167), slot work out of its turn (R9), and the others as
`State.rowDue` lists. -/
def Obligations.RowsNotDueChangeNothing : Prop :=
  ∀ (c : Instr) (s : State), ¬ s.rowDue c → exec c s = .next s

/-! ### Resets -/

/-- Power-on reset, by supply rise or a RESET pulse of at least 10 µs, sets every slot to the record of R23 and the
filing counter to 0; every other block is as State.reset says (R43, R63, R89, R104, R123, R159, R167, R168). That a
command taken and checked is then dropped without its work is the model's choice (log 5). The level of the line is
other nodes' and stays (log 8). -/
def Obligations.PowerOnReset : Prop :=
  ∀ (s : State) (cause : ResetCause), (cause = .supplyRise ∨ ∃ n, 10 ≤ n ∧ cause = .pinLow n) →
    ∃ t, exec (.powerOnReset cause) s = .next t ∧
      (∀ k : SlotId, t.slots[k] =
        { inService := false, role := .subscribe, key := 0x000000, mask := 0x000000, maskInUse := false,
          depotEnd := false, answer := false, notify := false, keepFirst := false, length := 0,
          data := Vector.replicate 16 0, source := none, filingNumber := none, fresh := false, overrun := false,
          sendPending := false }) ∧
      t.filingCounter = 0 ∧
      t = { State.reset with
        resetLow := true, lineActive := s.lineActive, accessCount := s.accessCount, freeCount := s.freeCount
        pending := s.pending }

/-- The pins (R27, R94, R168): LDE is high while a frame of the part is in flight, and LTX shows the level of its
present bit time, a slot's DATA or SOLICIT from its snapshot or a CLAIM, TOKEN, INVITE or JOIN, each from the own
address; LTX is high outside a frame. While RESET is low LDE is low, LTX high, NOTIFY released, no register access is
answered and no bus-master access begins. A power-on reset leaves RESET low until LEAVE_RESET ends it (the model's
choice, log 12). A pulse shorter than 10 µs resets the part or not, as the free value of log 11 says; when it does
not, RESET is low until LEAVE_RESET all the same, a frame in flight has been cut short without an end report, and
nothing else has changed (log 11). -/
def Obligations.ResetPin : Prop :=
  ∀ s : State,
    (∀ x, s.sched.snapshot = some x → s.frameInFlight = some
      (match x.body with
        | .data length bytes => .data s.ring.ownAddress x.key (bytes.toList.take length)
        | .solicit => .solicit s.ring.ownAddress x.key)) ∧
    (∀ f, s.sched.snapshot = none → s.line.ringFrame = some f → s.frameInFlight = some
      (match f.kind with
        | .claim => .claim s.ring.ownAddress
        | .token => .token s.ring.ownAddress f.destination
        | .invite => .invite s.ring.ownAddress f.destination
        | .join => .join s.ring.ownAddress f.destination)) ∧
    (s.sched.snapshot = none → s.line.ringFrame = none → s.frameInFlight = none) ∧
    (s.resetLow = false → (s.ldePin = true ↔ s.frameInFlight ≠ none) ∧
      (∀ f, s.frameInFlight = some f → s.ltxPin = f.levels.getD (s.line.txClocks / s.line.divider) true) ∧
      (s.frameInFlight = none → s.ltxPin = true)) ∧
    (s.resetLow = true → s.ldePin = false ∧ s.ltxPin = true ∧ s.notifyPin = true ∧
      (∀ o w, s.readRegister o w = none) ∧ (∀ c, RegisterWrite c → exec c s = .next s) ∧
      exec .takeBegin s = .next s ∧ exec .completionWrite s = .next s ∧ exec .linkNoticeWrite s = .next s ∧
      exec .readForNotice s = .next s) ∧
    exec .leaveReset s = .next { s with resetLow := false } ∧
    (∀ cause, (cause = .supplyRise ∨ ∃ n, 10 ≤ n ∧ cause = .pinLow n) → ∃ t, exec (.powerOnReset cause) s = .next t ∧
      t.resetLow = true ∧ t.freeCount = s.freeCount ∧ t.pending = s.pending) ∧
    ∀ n, n < 10 →
      (Config.shortPulseResets s.freeCount = true → exec (.powerOnReset (.pinLow n)) s = .next
        { State.reset with
          resetLow := true, lineActive := s.lineActive, accessCount := s.accessCount, freeCount := s.freeCount + 1
          pending := s.pending }) ∧
      (Config.shortPulseResets s.freeCount = false → s.transmitting = true →
        exec (.powerOnReset (.pinLow n)) s = .next { s with
          sched.snapshot := none, line.ringFrame := none, line.idleClocks := 0, line.gapClocks := 0
          resetLow := true, freeCount := s.freeCount + 1 }) ∧
      (Config.shortPulseResets s.freeCount = false → s.transmitting = false →
        exec (.powerOnReset (.pinLow n)) s = .next { s with resetLow := true, freeCount := s.freeCount + 1 })

/-- Device reset keeps each slot's configuration and content, takes it out of service with no status and no filing
record, sets the filing counter to 0, and resets every other block as power-on reset does, the accesses in flight
abandoned (R24, R43, R63, R89, R104, R123, R159, R163, R167). That a command taken and checked is then dropped without
its work is the model's choice (log 5). The level of the line is other nodes' and stays (log 8). -/
def Obligations.DeviceReset : Prop :=
  ∀ s : State, s.resetLow = false →
    (∀ v : Word, v.getLsbD 2 = true → hostWrite 0x04 .word v = .deviceReset) ∧
    exec .deviceReset s = .next { State.reset with
      slots := s.slots.map fun x => { x with
        inService := false, fresh := false, overrun := false, sendPending := false, source := none
        filingNumber := none }
      filingCounter := 0
      resetLow := false
      lineActive := s.lineActive
      accessCount := s.accessCount
      freeCount := s.freeCount
      pending := s.pending }

/-- Engine reset empties the open list, stops the engine, sets the four indices to 0 and the phases to 1, drops the
accesses in flight and restarts the quiet timer; the registers' other values, the notice list, the link notice, the
slots, the link and the line stay, and so does a command already taken whose execution step has not been made, which
still does its work without a completion (R122, log 5). The same write's run bit is then taken as RUN_SET takes it. -/
def Obligations.EngineReset : Prop :=
  ∀ s : State, s.resetLow = false →
    ∃ t, exec (.engineReset false) s = .next t ∧ exec (.engineReset true) s = exec .runSet t ∧
      t = { s with
        engine := { state := .stopped, run := false, fault := .none, head := 0, phase := true, openList := [],
                    credits := 0, cmdRead := none, checked := s.engine.checked,
                    mapReads := s.engine.mapReads }
        events.tail := 0
        events.phase := true
        events.quietClocks := 0
        events.write := none
        regs.cmdTail := 0
        regs.evtHead := 0 }

/-! ### Registers -/

/-- A write of CONTROL is the row of its first set reset bit, then of its run bit (R162); the other full aligned writes
go to the register at their offset, and every other write changes no register: it sets the index-refused flag when it
addresses a byte of a register of Table 9-1 (R160). That a narrow write has 8 or 16 bits is the model's choice (log
32). -/
def Obligations.HostWrites : Prop :=
  ∀ (s : State) (v : Word), s.resetLow = false →
    (v.getLsbD 2 = true → hostWrite 0x04 .word v = .deviceReset) ∧
    (v.getLsbD 2 = false → v.getLsbD 1 = true → hostWrite 0x04 .word v = .engineReset (v.getLsbD 0)) ∧
    (v.getLsbD 2 = false → v.getLsbD 1 = false → v.getLsbD 0 = true → hostWrite 0x04 .word v = .runSet) ∧
    (v.getLsbD 2 = false → v.getLsbD 1 = false → v.getLsbD 0 = false → hostWrite 0x04 .word v = .runClear) ∧
    hostWrite 0x08 .word v = .statusWrite v ∧
    hostWrite 0x10 .word v = .ringGeometryWrite .cmdBaseLo v ∧
    hostWrite 0x14 .word v = .ringGeometryWrite .cmdBaseHi v ∧
    hostWrite 0x18 .word v = .ringGeometryWrite .cmdSize v ∧
    hostWrite 0x1C .word v = .cmdTailWrite v ∧
    hostWrite 0x28 .word v = .ringGeometryWrite .evtBaseLo v ∧
    hostWrite 0x2C .word v = .ringGeometryWrite .evtBaseHi v ∧
    hostWrite 0x30 .word v = .ringGeometryWrite .evtSize v ∧
    hostWrite 0x34 .word v = .evtHeadWrite v ∧
    hostWrite 0x3C .word v = .notifyLevelWrite v ∧
    hostWrite 0x40 .word v = .notifyQuietWrite v ∧
    ∀ (o : Nat) (w : AccessWidth), WellFormed (.registerWriteOther o w) →
      hostWrite o w v = .registerWriteOther o w ∧
      exec (.registerWriteOther o w) s = .next { s with
        regs.indexRefused := s.regs.indexRefused ||
          (List.range (AccessWidth.bytes w)).any fun i =>
            [0x00, 0x04, 0x08, 0x10, 0x14, 0x18, 0x1C, 0x20, 0x28, 0x2C, 0x30, 0x34, 0x38, 0x3C, 0x40].any fun r =>
              decide (r ≤ o + i ∧ o + i < r + 4) }

/-- A CONTROL write of the run bit (R109, R110, R162): STOPPED, the first failing check is reported and the engine
stays STOPPED, or it enters RUNNING and the event writer looks for a notice (R148, log 14); RUNNING, a 1 has no effect
and a 0 stops the engine, which then begins no take; FAULTED, the write is ignored with the index-refused flag set. -/
def Obligations.RunBit : Prop :=
  ∀ s : State, s.resetLow = false →
    (s.engine.state = .stopped → (∀ c, ¬ s.checkFails c) →
      exec .runSet s = .next (State.lookForNotice { s with
        engine.state := .running, engine.run := true, engine.fault := .none })) ∧
    (∀ c, s.engine.state = .stopped → s.checkFails c → (∀ d, d.code < c.code → ¬ s.checkFails d) →
      exec .runSet s = .next { s with engine.run := false, engine.fault := .badConfig c }) ∧
    (s.engine.state = .stopped → exec .runClear s = .next s) ∧
    (s.engine.state = .running → exec .runSet s = .next s ∧
      ∃ t, exec .runClear s = .next t ∧ t = { s with engine.state := .stopped, engine.run := false } ∧
        exec .takeBegin t = .next t) ∧
    (s.engine.state = .faulted → exec .runSet s = .next { s with regs.indexRefused := true } ∧
      exec .runClear s = .next { s with regs.indexRefused := true })

/-- NOTIFY_LEVEL takes 0 to 4096 and NOTIFY_QUIET 0 to 65535, in every engine state, at once; a larger value is refused
with the index-refused flag set. Power-on and device reset set both to 0, engine reset leaves them. -/
def Obligations.NotifyRegisterWrites : Prop :=
  ∀ (s : State) (v : Word), s.resetLow = false →
    (v.toNat ≤ 4096 → ∃ t, exec (.notifyLevelWrite v) s = .next t ∧ t = { s with regs.notifyLevel := v.toNat } ∧
      (t.levelCondition = true ↔ v.toNat ≠ 0 ∧ v.toNat ≤ s.unconsumed)) ∧
    (4096 < v.toNat → exec (.notifyLevelWrite v) s = .next { s with regs.indexRefused := true }) ∧
    (v.toNat ≤ 65535 → ∃ t, exec (.notifyQuietWrite v) s = .next t ∧ t = { s with regs.notifyQuiet := v.toNat } ∧
      (t.quietCondition = true ↔ v.toNat ≠ 0 ∧ v.toNat ≤ s.events.quietMicros ∧ 1 ≤ s.unconsumed)) ∧
    (65535 < v.toNat → exec (.notifyQuietWrite v) s = .next { s with regs.indexRefused := true }) ∧
    (∃ t, exec .deviceReset s = .next t ∧ t.regs.notifyLevel = 0 ∧ t.regs.notifyQuiet = 0) ∧
    (∃ t, exec (.powerOnReset .supplyRise) s = .next t ∧ t.regs.notifyLevel = 0 ∧ t.regs.notifyQuiet = 0) ∧
    ∀ run, ∃ t, exec (.engineReset run) s = .next t ∧ t.regs.notifyLevel = s.regs.notifyLevel ∧
      t.regs.notifyQuiet = s.regs.notifyQuiet

/-- What each register reads (R160 to R164, Table 10-1): STATUS field by field, CONTROL its run bit, the others their
values; a narrow aligned read gives the low bytes; an unassigned or misaligned offset reads 0 (misaligned narrow
reads: log 17; 8 and 16 bits as the narrow widths: log 32; reads outside the window: log 31; the model's choices). The
codes in STATUS are those of Table 10-1 (R169). A STATUS write clears the index-refused flag when its bit is 1. -/
def Obligations.RegisterReads : Prop :=
  ∀ s : State, s.resetLow = false →
    s.readRegister 0x00 .word = some 0x5A570640 ∧
    s.readRegister 0x04 .word = some (if s.engine.run then 1 else 0) ∧
    (∃ w, s.readRegister 0x08 .word = some w ∧ (w.extractLsb' 0 4).toNat = s.engine.state.code ∧
      (w.extractLsb' 4 4).toNat = s.engine.fault.code ∧ (w.extractLsb' 8 4).toNat = s.engine.fault.causeCode ∧
      (w.extractLsb' 12 4).toNat = s.ring.condition.code.toNat ∧ w.getLsbD 16 = s.regs.indexRefused ∧
      w.extractLsb' 17 15 = 0) ∧
    EngineState.stopped.code = 0 ∧ EngineState.running.code = 1 ∧ EngineState.faulted.code = 2 ∧
    FaultCode.none.code = 0 ∧ (∀ c, (FaultCode.badConfig c).code = 1 ∧ (FaultCode.badConfig c).causeCode = c.code) ∧
    FaultCode.cqRead.code = 2 ∧ FaultCode.eqWrite.code = 3 ∧ FaultCode.none.causeCode = 0 ∧
    FaultCode.cqRead.causeCode = 0 ∧ FaultCode.eqWrite.causeCode = 0 ∧
    ConfigCause.cmdBase.code = 1 ∧ ConfigCause.cmdSize.code = 2 ∧ ConfigCause.cmdIndex.code = 3 ∧
    ConfigCause.evtBase.code = 4 ∧ ConfigCause.evtSize.code = 5 ∧ ConfigCause.evtIndex.code = 6 ∧
    Condition.stopped.code = 0 ∧ Condition.listening.code = 1 ∧ Condition.inRing.code = 2 ∧ Condition.alone.code = 3 ∧
    Condition.withdrawn.code = 4 ∧
    s.readRegister 0x10 .word = some s.regs.cmdBaseLo ∧ s.readRegister 0x14 .word = some s.regs.cmdBaseHi ∧
    s.readRegister 0x18 .word = some (s.regs.cmdSize.setWidth 32) ∧
    s.readRegister 0x1C .word = some (BitVec.ofNat 32 s.regs.cmdTail) ∧
    s.readRegister 0x20 .word = some (BitVec.ofNat 32 s.engine.head) ∧
    s.readRegister 0x28 .word = some s.regs.evtBaseLo ∧ s.readRegister 0x2C .word = some s.regs.evtBaseHi ∧
    s.readRegister 0x30 .word = some (s.regs.evtSize.setWidth 32) ∧
    s.readRegister 0x34 .word = some (BitVec.ofNat 32 s.regs.evtHead) ∧
    s.readRegister 0x38 .word = some (BitVec.ofNat 32 s.events.tail) ∧
    s.readRegister 0x3C .word = some (BitVec.ofNat 32 s.regs.notifyLevel) ∧
    s.readRegister 0x40 .word = some (BitVec.ofNat 32 s.regs.notifyQuiet) ∧
    (∀ o w, 4 ∣ o → ∃ v, s.readRegister o .word = some v ∧ s.readRegister o w = some
      (match w with
        | .byte => (v.extractLsb' 0 8).setWidth 32
        | .half => (v.extractLsb' 0 16).setWidth 32
        | .word => v)) ∧
    (∀ o w, (¬ 4 ∣ o ∨ o = 0x0C ∨ o = 0x24 ∨ 0x44 ≤ o) → s.readRegister o w = some 0) ∧
    ∀ v : Word, exec (.statusWrite v) s = .next { s with regs.indexRefused := s.regs.indexRefused && !v.getLsbD 16 }

/-- A base or size register takes a write while the engine is STOPPED with no open entry, valid or not, and is left
with the index-refused flag set otherwise (R106). CMD_TAIL takes 0 to size − 1 while CMD_SIZE is valid, and only its
own value while it is not; any other write is refused (R107). -/
def Obligations.RingRegisterWrites : Prop :=
  ∀ (s : State) (v : Word), s.resetLow = false →
    let valid := 3 ≤ s.regs.cmdSize.toNat ∧ s.regs.cmdSize.toNat ≤ 10
    let refused : State := { s with regs.indexRefused := true }
    (s.engine.state = .stopped → s.engine.openList = [] →
      exec (.ringGeometryWrite .cmdBaseLo v) s = .next { s with regs.cmdBaseLo := v } ∧
      exec (.ringGeometryWrite .cmdBaseHi v) s = .next { s with regs.cmdBaseHi := v } ∧
      exec (.ringGeometryWrite .cmdSize v) s = .next { s with regs.cmdSize := v.extractLsb' 0 4 } ∧
      exec (.ringGeometryWrite .evtBaseLo v) s = .next { s with regs.evtBaseLo := v } ∧
      exec (.ringGeometryWrite .evtBaseHi v) s = .next { s with regs.evtBaseHi := v } ∧
      exec (.ringGeometryWrite .evtSize v) s = .next { s with regs.evtSize := v.extractLsb' 0 4 }) ∧
    (s.engine.state ≠ .stopped ∨ s.engine.openList ≠ [] →
      ∀ reg, exec (.ringGeometryWrite reg v) s = .next refused) ∧
    (valid → v.toNat < 2 ^ s.regs.cmdSize.toNat →
      exec (.cmdTailWrite v) s = .next { s with regs.cmdTail := v.toNat }) ∧
    (valid → 2 ^ s.regs.cmdSize.toNat ≤ v.toNat → exec (.cmdTailWrite v) s = .next refused) ∧
    (¬ valid → v.toNat = s.regs.cmdTail → exec (.cmdTailWrite v) s = .next s) ∧
    (¬ valid → v.toNat ≠ s.regs.cmdTail → exec (.cmdTailWrite v) s = .next refused)

/-- EVT_HEAD takes a value on the cyclic run from the head to the tail: the head moves, the unconsumed count falls and
the free entries rise by the entries released; any other value is refused, and with the size or an index out of range
every value but the head's own (R146, R147). A taken one makes the event writer look for a notice (R148, log 14). -/
def Obligations.EventHeadWrites : Prop :=
  ∀ (s : State) (v : Word), s.resetLow = false →
    let size := 2 ^ s.regs.evtSize.toNat
    let head := s.regs.evtHead
    let tail := s.events.tail
    let valid := 5 ≤ s.regs.evtSize.toNat ∧ s.regs.evtSize.toNat ≤ 12 ∧ head < size ∧ tail < size
    (valid → s.unconsumed = (tail + size - head) % size ∧ s.freeEntries + s.unconsumed + 1 = size) ∧
    (valid → v.toNat < size → (v.toNat + size - head) % size ≤ (tail + size - head) % size →
      ∃ t, exec (.evtHeadWrite v) s = .next t ∧ t = State.lookForNotice { s with regs.evtHead := v.toNat } ∧
        t.unconsumed + (v.toNat + size - head) % size = s.unconsumed ∧
        t.freeEntries = s.freeEntries + (v.toNat + size - head) % size) ∧
    (valid → (size ≤ v.toNat ∨ (tail + size - head) % size < (v.toNat + size - head) % size) →
      exec (.evtHeadWrite v) s = .next { s with regs.indexRefused := true }) ∧
    (¬ valid → v.toNat = head → exec (.evtHeadWrite v) s = .next s.lookForNotice) ∧
    (¬ valid → v.toNat ≠ head → exec (.evtHeadWrite v) s = .next { s with regs.indexRefused := true })

/-! ### The queue engine -/

/-- A take begins when the engine is RUNNING, no take is under way, head ≠ tail, fewer than 16 entries are open, the
reserved credits are fewer than the free entries, and no notice write is in flight (RESET is high): an entry in state
taking (its tag, code, slot and kind as yet: log 6), its credit, and the read of the record at base + 64 × head, with
an access number of its own (log 7). Otherwise the engine waits (R111, R165). An address past 2^64 − 1 goes on at 0 (the
model's choice, log 30). -/
def Obligations.TakeBegins : Prop :=
  ∀ s : State,
    let may := s.engine.state = .running ∧ s.engine.cmdRead = none ∧ s.engine.checked = none ∧
      s.engine.head ≠ s.regs.cmdTail ∧ s.engine.openList.length < 16 ∧ s.engine.credits < s.freeEntries ∧
      (∀ w, s.events.write = some w → w.source ≠ .notice) ∧ s.resetLow = false
    (may → exec .takeBegin s = .next { s with
      engine.openList := s.engine.openList ++
        [{ index := s.engine.head, tag := 0, code := 0, slot := none, kind := .immediate, state := .taking }]
      engine.credits := s.engine.credits + 1
      engine.cmdRead := some
        { access := s.accessCount, index := s.engine.head
          address := (s.regs.cmdBaseHi ++ s.regs.cmdBaseLo) + BitVec.ofNat 64 (64 * s.engine.head)
          phase := s.engine.phase, clocks := 0 }
      accessCount := s.accessCount + 1 }) ∧
    (¬ may → exec .takeBegin s = .next s)

/-- The record read, the head advances, the phase flipping at the wrap; a record that fails a check has its entry done
with the check's status, one that passes waits for its execution step (log 5), and when it does slot work its claim
joins those waiting at the slot table (R9), the model's choice of when (log 28); both entries keep the record's tag and
code. That a refused record's entry has no slot, and that an accepted one keeps the kind immediate until its execution
step, is the model's choice (log 6). In FAULTED the take ends without a record (R112, R113, R115, R121). -/
def Obligations.TakeEnds : Prop :=
  ∀ (s : State) (read : CommandRead) (r : List Byte), s.engine.cmdRead = some read → r.length = 64 →
    let next := if s.engine.head + 1 = 2 ^ s.regs.cmdSize.toNat then 0 else s.engine.head + 1
    let phase := if next = 0 then !s.engine.phase else s.engine.phase
    (∀ st, s.engine.state ≠ .faulted → checkRecord read.phase r = .error st →
      exec (.takeEnd read.access r) s = .next { s with
        engine.head := next
        engine.phase := phase
        engine.cmdRead := none
        engine.openList := s.engine.openList.map fun e =>
          if e.state = .taking then
            { e with tag := recHalf r 2, code := recByte r 0, slot := none, kind := .immediate, state := doneWith st }
          else e }) ∧
    (∀ c, s.engine.state ≠ .faulted → checkRecord read.phase r = .ok c →
      exec (.takeEnd read.access r) s = .next { s with
        engine.head := next
        engine.phase := phase
        engine.cmdRead := none
        engine.checked := some c
        engine.openList := s.engine.openList.map fun e =>
          if e.state = .taking then { e with tag := recHalf r 2, code := recByte r 0, slot := c.slot } else e
        claims :=
          match c with
          | .store _ => s.claims ++ [.command]
          | .fetch _ _ => s.claims ++ [.command]
          | .send _ _ => s.claims ++ [.command]
          | .cancel _ => s.claims ++ [.command]
          | .tableClear => s.claims ++ [.command]
          | _ => s.claims }) ∧
    (s.engine.state = .faulted →
      exec (.takeEnd read.access r) s = .next { s with
        engine.openList := releaseBarrier (s.engine.openList.filter fun e => e.state ≠ .taking)
        engine.credits := s.engine.credits - 1
        engine.cmdRead := none })

/-- The checks of R113 in their order: the phase, the check word, the command code, the slot number, then the options
and operands. The codes, the commands that name a slot and the option bits each defines are those of Table 7-1 (R124).
An operand refuses the record exactly when its group is selected and it holds a value its table does not define: set
bits 7:3 of a flag byte, a role code above 1, a set bit in byte 23 or 27, a length above 16, a LINK_START operand out
of its range (R129, R139, R170). A record that passes them all gives its command, well formed, with the record's code,
each value read from its place in Tables 10-2 to 10-4 (R170). -/
def Obligations.RecordChecks : Prop :=
  (∀ (expected : Bool) (r : List Byte),
    let phaseOk := (recByte r 1).getLsbD 0 = expected
    (¬ phaseOk → checkRecord expected r = .error .stale) ∧
    (phaseOk → checkCorrect r = false → checkRecord expected r = .error .badCheck) ∧
    (phaseOk → checkCorrect r = true → commandCode (recByte r 0) = none →
      checkRecord expected r = .error .badCommand) ∧
    ∀ c, phaseOk → checkCorrect r = true → commandCode (recByte r 0) = some c →
      (c.namesSlot = true → 63 < (recByte r 8).toNat → checkRecord expected r = .error .badSlot) ∧
      ((c.namesSlot = true → (recByte r 8).toNat ≤ 63) →
        (2 ^ c.optionBits ≤ (recHalf r 3).toNat ∨ readOperands c r = none →
          checkRecord expected r = .error .badValue) ∧
        ∀ command, (recHalf r 3).toNat < 2 ^ c.optionBits → readOperands c r = some command →
          checkRecord expected r = .ok command ∧ command.wf = true ∧ command.code = c)) ∧
  (∀ (b : Byte) (c : CommandCode), commandCode b = some c ↔ c.byte = b) ∧
  CommandCode.nop.byte = 0x01 ∧ CommandCode.store.byte = 0x02 ∧ CommandCode.fetch.byte = 0x03 ∧
  CommandCode.send.byte = 0x04 ∧ CommandCode.cancel.byte = 0x05 ∧ CommandCode.tableClear.byte = 0x06 ∧
  CommandCode.linkStart.byte = 0x10 ∧ CommandCode.linkStop.byte = 0x11 ∧ CommandCode.mapRead.byte = 0x12 ∧
  CommandCode.barrier.byte = 0x20 ∧
  (∀ c : CommandCode,
    (c.namesSlot = true ↔ c = .store ∨ c = .fetch ∨ c = .send ∨ c = .cancel) ∧
    c.optionBits =
      if c = .store then 5 else if c = .linkStart then 2 else if c = .fetch ∨ c = .send then 1 else 0) ∧
  ∀ r : List Byte,
    (readOperands .store r = none ↔
      ((recHalf r 3).getLsbD 0 = true ∧ (8 ≤ (recByte r 16).toNat ∨ 1 < (recByte r 17).toNat
        ∨ recByte r 23 ≠ 0 ∨ recByte r 27 ≠ 0)) ∨
      ((recHalf r 3).getLsbD 1 = true ∧ 8 ≤ (recByte r 18).toNat) ∨
      ((recHalf r 3).getLsbD 2 = true ∧ 16 < (recByte r 19).toNat)) ∧
    (readOperands .linkStart r = none ↔
      31 < (recByte r 16).toNat ∨ (recHalf r 9).toNat < 10 ∨ 320 < (recHalf r 9).toNat
        ∨ (recByte r 20).toNat < 1 ∨ 15 < (recByte r 20).toNat) ∧
    (∀ c : CommandCode, c ≠ .store → c ≠ .linkStart → readOperands c r ≠ none) ∧
    (∀ i, recByte r i = r.getD i 0) ∧
    let b (i : Nat) : Byte := r.getD i 0
    let option (i : Nat) : Bool := (b 7 ++ b 6 : Half).getLsbD i
    let slot : SlotId := Fin.ofNat 64 (b 8).toNat
    (readOperands .store r ≠ none → readOperands .store r = some (.store
      { slot := slot
        setup := if option 0 then some
            { inService := (b 16).getLsbD 0, maskInUse := (b 16).getLsbD 1, depotEnd := (b 16).getLsbD 2
              role := if b 17 = 1 then .publish else .subscribe
              key := b 22 ++ b 21 ++ b 20, mask := b 26 ++ b 25 ++ b 24 }
          else none
        behaviour := if option 1 then some
            { answer := (b 18).getLsbD 0, notify := (b 18).getLsbD 1, keepFirst := (b 18).getLsbD 2 }
          else none
        content := if option 2 then some
            { length := (b 19).toNat, bytes := (List.range 16).map fun i => b (32 + i) }
          else none
        clearStatus := option 3, sendAfter := option 4 })) ∧
    (readOperands .linkStart r ≠ none → readOperands .linkStart r = some (.linkStart
      { ownAddress := BitVec.ofNat 5 (b 16).toNat, divider := (b 19 ++ b 18 : Half).toNat, budget := (b 20).toNat
        inviteInterval := (b 21).toNat, listenOnly := option 0, selfFiling := option 1 })) ∧
    readOperands .fetch r = some (.fetch slot (option 0)) ∧ readOperands .send r = some (.send slot (option 0)) ∧
    readOperands .cancel r = some (.cancel slot) ∧ readOperands .nop r = some .nop ∧
    readOperands .tableClear r = some .tableClear ∧ readOperands .linkStop r = some .linkStop ∧
    readOperands .mapRead r = some .mapRead ∧ readOperands .barrier r = some .barrier

/-- The check word is correct when halfword 1 is the exclusive-or of the other 31 halfwords, each little-endian, and
0x5A5A; a record of zero bytes and one of 0xFF bytes have wrong check words, and are refused BAD_CHECK when the phase
matches and STALE when it does not (R114). -/
def Obligations.CheckWord : Prop :=
  (∀ r : List Byte, checkCorrect r = true ↔
    recHalf r 1 = ((List.range 32).filter (· ≠ 1)).foldr (fun i x => recHalf r i ^^^ x) 0x5A5A) ∧
  (∀ (r : List Byte) (i : Nat), recHalf r i = r.getD (2 * i + 1) 0 ++ r.getD (2 * i) 0) ∧
  checkWordOf (List.replicate 64 0) = 0x5A5A ∧ checkCorrect (List.replicate 64 0) = false ∧
  checkWordOf (List.replicate 64 0xFF) = 0xA5A5 ∧ checkCorrect (List.replicate 64 0xFF) = false ∧
  checkRecord false (List.replicate 64 0) = .error .badCheck ∧ checkRecord true (List.replicate 64 0) = .error .stale ∧
  checkRecord true (List.replicate 64 0xFF) = .error .badCheck ∧ checkRecord false (List.replicate 64 0xFF) = .error .stale

/-- A command read that fails, or has no answer within 2 ms, takes the engine to FAULTED with CQ_READ: head and phase
stay, the taking entry is removed and its credit released. FAULTED already, the fault code keeps its value (R120,
R121, R166). -/
def Obligations.CommandReadFails : Prop :=
  ∀ (s : State) (read : CommandRead), s.engine.cmdRead = some read →
    let failed : State := { s with
      engine.state := .faulted
      engine.fault := if s.engine.state = .faulted then s.engine.fault else .cqRead
      engine.openList := releaseBarrier (s.engine.openList.filter fun e => e.state ≠ .taking)
      engine.credits := s.engine.credits - 1
      engine.cmdRead := none }
    exec (.cqReadFail read.access) s = .next failed ∧
    (80000 ≤ read.clocks → exec (.busResponseTimeout .commandRead) s = .next failed)

/-- Every command the part can carry out has a record: the record written for it, with either phase and any tag, passes
the checks against that phase and gives the command back, every operand at every value. -/
def Obligations.CommandRecordRoundTrip : Prop :=
  ∀ (c : Command) (phase : Bool) (tag : Half), c.wf = true →
    (c.record phase tag).length = 64 ∧ recHalf (c.record phase tag) 2 = tag ∧
      checkRecord phase (c.record phase tag) = .ok c

/-! ### The ten commands -/

/-- NOP is done with OK, carries no result, and reaches no other block (R128). -/
def Obligations.NopRuns : Prop :=
  ∀ s : State, s.engine.checked = some .nop →
    exec .nop s = .next { s with
      engine.openList := settle .immediate (doneWith .ok) s.engine.openList
      engine.checked := none, engine.mapReads := MapReads.empty
      claims := s.claims.erase .command }

/-- STORE (R10 to R12, R17, R129, R130): refused SLOT_LIVE or NOT_IN_SERVICE with nothing stored, or the selected
groups written, the status cleared and send pending set as its options say, with OK; a slot taken out of service
leaves the notice list and ends its waiting confirm-SENDs SLOT_CLOSED. As all slot work it waits for its turn at the
slot table (R9). -/
def Obligations.StoreRuns : Prop :=
  ∀ (s : State) (o : StoreOperands), s.engine.checked = some (.store o) → s.turn .command = true →
    let k := o.slot
    let x := s.slots[k]
    let live := x.inService = true ∧ ∃ g, o.setup = some g ∧ g.inService = true
    let stays := (o.setup.map (·.inService)).getD x.inService
    let closes := x.inService = true ∧ ∃ g, o.setup = some g ∧ g.inService = false
    (live → exec .store s = .next { s with
      engine.openList := settle .immediate (doneWith .slotLive) s.engine.openList, engine.checked := none
      engine.mapReads := MapReads.empty, claims := s.claims.erase .command }) ∧
    (¬ live → o.sendAfter = true → stays = false → exec .store s = .next { s with
      engine.openList := settle .immediate (doneWith .notInService) s.engine.openList, engine.checked := none
      engine.mapReads := MapReads.empty, claims := s.claims.erase .command }) ∧
    (¬ live → (o.sendAfter = true → stays = true) → ∃ t, exec .store s = .next t ∧ t = { s with
      slots := s.slots.set k
        { inService := stays
          role := (o.setup.map (·.role)).getD x.role
          key := (o.setup.map (·.key)).getD x.key
          mask := (o.setup.map (·.mask)).getD x.mask
          maskInUse := (o.setup.map (·.maskInUse)).getD x.maskInUse
          depotEnd := (o.setup.map (·.depotEnd)).getD x.depotEnd
          answer := (o.behaviour.map (·.answer)).getD x.answer
          notify := (o.behaviour.map (·.notify)).getD x.notify
          keepFirst := (o.behaviour.map (·.keepFirst)).getD x.keepFirst
          length := (o.content.map (·.length)).getD x.length
          data := (o.content.map fun g =>
            Vector.ofFn fun i : Fin 16 => if i.val < g.length then g.bytes.getD i.val 0 else 0).getD x.data
          source := if o.setup.isSome && stays then none else x.source
          filingNumber := if o.setup.isSome && stays then none else x.filingNumber
          fresh := x.fresh && o.setup.isNone && !o.clearStatus
          overrun := x.overrun && o.setup.isNone && !o.clearStatus
          sendPending := o.sendAfter || (x.sendPending && o.setup.isNone) }
      events.noticeList := t.events.noticeList
      engine.openList := t.engine.openList
      engine.checked := none, engine.mapReads := MapReads.empty
      claims := s.claims.erase .command } ∧
      (closes ∨ o.clearStatus = true → t.events.noticeList = s.events.noticeList.filter (· ≠ k)) ∧
      (¬ closes → o.clearStatus = false → t.events.noticeList = s.events.noticeList) ∧
      (closes → t.engine.openList =
        settle .immediate (doneWith .ok) (endSends k .slotClosed s.engine.openList)) ∧
      (¬ closes → t.engine.openList = settle .immediate (doneWith .ok) s.engine.openList))

/-- FETCH copies the slot out, in any condition, before any consume; consume clears fresh and overrun and takes the slot
out of the notice list (R13, R131). -/
def Obligations.FetchRuns : Prop :=
  ∀ (s : State) (k : SlotId), s.turn .command = true → let x := s.slots[k]
    let list := settle .immediate (.done ⟨.ok, .fetch x⟩) s.engine.openList
    (s.engine.checked = some (.fetch k false) →
      exec .fetch s = .next { s with
        engine.openList := list, engine.checked := none, engine.mapReads := MapReads.empty
        claims := s.claims.erase .command }) ∧
    (s.engine.checked = some (.fetch k true) → exec .fetch s = .next { s with
      slots := s.slots.set k { x with fresh := false, overrun := false }
      events.noticeList := s.events.noticeList.filter (· ≠ k)
      engine.openList := list
      engine.checked := none, engine.mapReads := MapReads.empty
      claims := s.claims.erase .command })

/-- SEND (R14, R127, R133, R134): with confirm and 15 long entries open LIST_FULL, out of service NOT_IN_SERVICE,
neither setting send pending; otherwise send pending is set and the entry is done with OK, or with confirm waits, or
is done with LINK_DOWN when the link is OFF or WITHDRAWN. LIST_FULL comes before the slot table's turn (R116); that a
claim stands at the slot table by then, and is withdrawn by it, is the model's choice (log 28). -/
def Obligations.SendRuns : Prop :=
  ∀ (s : State) (k : SlotId) (confirm : Bool), s.engine.checked = some (.send k confirm) →
    let x := s.slots[k]
    let full := confirm = true ∧ 15 ≤ s.engine.openList.countP fun e => e.kind = .long
    let down := s.ring.link = .off ∨ s.ring.link = .withdrawn
    let pending := s.slots.set k { x with sendPending := true }
    (full → exec .send s = .next { s with
      engine.openList := settle .immediate (doneWith .listFull) s.engine.openList, engine.checked := none
      engine.mapReads := MapReads.empty, claims := s.claims.erase .command }) ∧
    (¬ full → s.turn .command = true → x.inService = false → exec .send s = .next { s with
      engine.openList := settle .immediate (doneWith .notInService) s.engine.openList, engine.checked := none
      engine.mapReads := MapReads.empty, claims := s.claims.erase .command }) ∧
    (confirm = false → s.turn .command = true → x.inService = true → exec .send s = .next { s with
      slots := pending
      engine.openList := settle .immediate (doneWith .ok) s.engine.openList, engine.checked := none
      engine.mapReads := MapReads.empty, claims := s.claims.erase .command }) ∧
    (¬ full → confirm = true → s.turn .command = true → x.inService = true → down → exec .send s = .next { s with
      slots := pending
      engine.openList := settle .long (doneWith .linkDown) s.engine.openList, engine.checked := none
      engine.mapReads := MapReads.empty, claims := s.claims.erase .command }) ∧
    (¬ full → confirm = true → s.turn .command = true → x.inService = true → ¬ down → exec .send s = .next { s with
      slots := pending
      engine.openList := settle .long .waiting s.engine.openList, engine.checked := none
      engine.mapReads := MapReads.empty, claims := s.claims.erase .command })

/-- CANCEL clears send pending on any slot, ends the slot's waiting confirm-SENDs CANCELLED, and is done with TOO_LATE
while the slot's frame is in flight, else OK; it reports send pending as it stood (R15, R100, R136). TABLE_CLEAR takes
every slot out of service, empties the notice list, and ends every waiting confirm-SEND SLOT_CLOSED; a frame in flight
goes on (R17, R18, R138). -/
def Obligations.CancelAndTableClearRun : Prop :=
  (∀ (s : State) (k : SlotId), s.engine.checked = some (.cancel k) → s.turn .command = true →
    let x := s.slots[k]
    let after (st : Status) : State := { s with
      slots := s.slots.set k { x with sendPending := false }
      engine.openList := settle .immediate (.done ⟨st, .cancel x.sendPending⟩)
        (endSends k .cancelled s.engine.openList)
      engine.checked := none, engine.mapReads := MapReads.empty
      claims := s.claims.erase .command }
    ((∃ f, s.sched.snapshot = some f ∧ f.slot = k) → exec .cancel s = .next (after .tooLate)) ∧
    ((∀ f, s.sched.snapshot = some f → f.slot ≠ k) → exec .cancel s = .next (after .ok))) ∧
  ∀ s : State, s.engine.checked = some .tableClear → s.turn .command = true →
    exec .tableClear s = .next { s with
      slots := s.slots.map fun x =>
        { x with inService := false, fresh := false, overrun := false, sendPending := false }
      events.noticeList := []
      engine.openList := settle .immediate (doneWith .ok) (endWaits .send .slotClosed s.engine.openList)
      engine.checked := none, engine.mapReads := MapReads.empty
      claims := s.claims.erase .command }

/-- LINK_START from OFF or WITHDRAWN starts the link in LISTEN with its options, only its own address marked, and the
silence timer running and the receiver waiting for 2 bt of idle line (R43; for a frame already on the line log 33), and
hands the condition on; in any other
state it is done with LINK_BUSY and changes nothing (R85, R139, R140). -/
def Obligations.LinkStartRuns : Prop :=
  ∀ (s : State) (o : LinkOptions), s.engine.checked = some (.linkStart o) →
    let down := s.ring.link = .off ∨ s.ring.link = .withdrawn
    (down → exec .linkStart s = .next (State.reportLink { s with
      ring := { s.ring with
        link := .listen, ownAddress := o.ownAddress, budget := o.budget, inviteInterval := o.inviteInterval
        listenOnly := o.listenOnly, selfFiling := o.selfFiling, liveMap := 1#32 <<< o.ownAddress.toNat
        awaited := none, attempt := .first, inviteCursor := o.ownAddress + 1
        inviteCountdown := o.inviteInterval, rotation := 0, unheard := 0, clash := false, stopRequest := false
        window := .stopped, silence := .running 0, pause := .stopped }
      line.divider := o.divider
      line.receiver := .hunting
      line.idleClocks := 0
      line.waiting := none
      sched.cursor := 0
      engine.openList := settle .immediate (doneWith .ok) s.engine.openList
      engine.checked := none, engine.mapReads := MapReads.empty
      claims := s.claims.erase .command })) ∧
    (¬ down → exec .linkStart s = .next { s with
      engine.openList := settle .immediate (doneWith .linkBusy) s.engine.openList, engine.checked := none
      engine.mapReads := MapReads.empty, claims := s.claims.erase .command })

/-- LINK_STOP (R86, R87, R103, R141, R142): LIST_FULL with 15 long entries open; done at once in OFF; while a stop
stands its entry only waits; from LISTEN, MEMBER and WITHDRAWN, and from a state with no frame to finish and no TOKEN
to pass, the link reaches OFF; with a frame in flight the stop request stands; otherwise a TOKEN to the successor
waits, in HOLDING at the time of the holding's next frame, in INVITING 4 bt after the INVITE's end, or at once if that
time has passed. That it starts at once in HOLDING where nothing waits, that in INVITING an arrival since the INVITE
does not put it off, and that the request stands in JOINING and PASSING, is the model's reading (log 21); that a node
whose JOIN has been taken counts as the successor is its choice (log 35). -/
def Obligations.LinkStopRuns : Prop :=
  ∀ s : State, s.engine.checked = some .linkStop →
    let full := 15 ≤ s.engine.openList.countP fun e => e.kind = .long
    let waits : State := { s with
      engine.openList := settle .long .waiting s.engine.openList, engine.checked := none
      engine.mapReads := MapReads.empty, claims := s.claims.erase .command }
    let stands : State := { waits with
      ring.stopRequest := true, ring.window := .stopped, ring.pause := .stopped }
    let sending := s.sched.snapshot ≠ none ∨ s.line.ringFrame ≠ none
    let go := ¬ full ∧ s.ring.stopRequest = false
    (full → exec .linkStop s = .next { s with
      engine.openList := settle .immediate (doneWith .listFull) s.engine.openList, engine.checked := none
      engine.mapReads := MapReads.empty, claims := s.claims.erase .command }) ∧
    (¬ full → s.ring.link = .off → exec .linkStop s = .next { s with
      engine.openList := settle .long (doneWith .ok) s.engine.openList, engine.checked := none
      engine.mapReads := MapReads.empty, claims := s.claims.erase .command }) ∧
    (¬ full → s.ring.link ≠ .off → s.ring.stopRequest = true → exec .linkStop s = .next waits.reportLink) ∧
    (go → s.ring.link = .listen ∨ s.ring.link = .member ∨ s.ring.link = .withdrawn →
      exec .linkStop s = .next waits.reachOff.reportLink) ∧
    (go → s.ring.link = .joining ∨ s.ring.link = .passing → ¬ sending →
      exec .linkStop s = .next waits.reachOff.reportLink) ∧
    (go → s.ring.link = .holding ∨ s.ring.link = .inviting → ¬ sending → s.ring.alone = true →
      exec .linkStop s = .next waits.reachOff.reportLink) ∧
    (go → s.ring.link = .joining ∨ s.ring.link = .passing ∨ s.ring.link = .inviting → sending →
      exec .linkStop s = .next stands.reportLink) ∧
    (go → s.ring.link = .holding → sending →
      exec .linkStop s = .next (State.reportLink { stands with sched.stopRequest := true })) ∧
    (go → s.ring.link = .holding → ¬ sending → s.ring.alone = false →
      exec .linkStop s = .next (State.reportLink { stands with
        sched.stopRequest := true
        line.waiting := some
          (match s.line.waiting with
            | some w => { w with kind := .token }
            | none => { kind := .token, gap := 0, elapsed := 0 }) })) ∧
    (go → s.ring.link = .inviting → ¬ sending → s.ring.alone = false →
      exec .linkStop s = .next (State.reportLink { stands with
        line.waiting := some
          { kind := .token, gap := 4, elapsed := s.line.gapClocks } }))

/-- MAP_READ reads the state of Table 7-4 from its three owners, each read the owner's state as it stands, the ring
controller's values together and its clash flag then cleared; the reads come in any order, what comes between them as
it may (log 15), and a read once made is not made again. With the three it is done with OK and carries them (R143,
R144). -/
def Obligations.MapReadRuns : Prop :=
  ∀ s : State, s.engine.checked = some .mapRead →
    let m := s.engine.mapReads
    let ring : RingCopy := m.ring.getD
      { link := s.ring.link, condition := s.ring.condition, liveMap := s.ring.liveMap, successor := s.ring.successor
        ownAddress := s.ring.ownAddress, rotation := s.ring.rotation, unheard := s.ring.unheard, clash := s.ring.clash }
    let counter := m.counter.getD s.filingCounter
    let cursor := m.cursor.getD s.sched.cursor
    let copied : State := { s with ring.clash := if m.ring = none then false else s.ring.clash }
    let done (t : State) : State := { t with
      engine.openList := settle .immediate (.done ⟨.ok, .mapRead ring counter cursor⟩) s.engine.openList
      engine.checked := none, engine.mapReads := MapReads.empty
      claims := s.claims.erase .command }
    exec (.mapRead .rest) s = .next (done copied) ∧
    exec (.mapRead .ring) s = .next
      (if m.counter ≠ none ∧ m.cursor ≠ none then done copied
        else { copied with engine.mapReads := { m with ring := some ring } }) ∧
    exec (.mapRead .table) s = .next
      (if m.ring ≠ none ∧ m.cursor ≠ none then done s else { s with engine.mapReads := { m with counter := some counter } }) ∧
    exec (.mapRead .scheduler) s = .next
      (if m.ring ≠ none ∧ m.counter ≠ none then done s else { s with engine.mapReads := { m with cursor := some cursor } })

/-- BARRIER is done with LIST_FULL when 15 long entries are open, with OK at once when no earlier entry is open, and
otherwise waits (R145). -/
def Obligations.BarrierRuns : Prop :=
  ∀ s : State, s.engine.checked = some .barrier →
    let full := 15 ≤ s.engine.openList.countP fun e => e.kind = .long
    let only := ∀ e ∈ s.engine.openList, e.state = .taking
    (full → exec .barrier s = .next { s with
      engine.openList := settle .immediate (doneWith .listFull) s.engine.openList, engine.checked := none
      engine.mapReads := MapReads.empty, claims := s.claims.erase .command }) ∧
    (¬ full → only → exec .barrier s = .next { s with
      engine.openList := settle .long (doneWith .ok) s.engine.openList, engine.checked := none
      engine.mapReads := MapReads.empty, claims := s.claims.erase .command }) ∧
    (¬ full → ¬ only → exec .barrier s = .next { s with
      engine.openList := settle .long .waiting s.engine.openList, engine.checked := none
      engine.mapReads := MapReads.empty, claims := s.claims.erase .command })

/-! ### The event writer -/

/-- With no write in flight, the engine not FAULTED and RESET high, the oldest done entry's completion, the one
accepted first (the model's choice, log 26), begins its write at EVT_BASE + 32 × tail, with an access number of its
own (R118, R148, R151, R165, log 7); an address past 2^64 − 1 goes on at 0 (the model's choice, log 30). With no write
in flight, no completion ready, the engine RUNNING and free entries beyond the credits, the pending link notice is
taken and its write begins, with the rotation count and clash flag of that moment (R148, R155). -/
def Obligations.CompletionAndLinkNoticeWritesBegin : Prop :=
  (∀ (s : State) (p : Nat) (e : Entry) (c : Completion), s.events.write = none → s.engine.state ≠ .faulted →
    s.resetLow = false → s.engine.openList[p]? = some e → e.state = .done c →
    (∀ q < p, ∀ e', s.engine.openList[q]? = some e' → e'.completion = none) →
    exec .completionWrite s = .next { s with
      events.write := some
        { access := s.accessCount
          address := (s.regs.evtBaseHi ++ s.regs.evtBaseLo) + BitVec.ofNat 64 (32 * s.events.tail)
          record := completionRecord s.events.phase e c, source := .completion p, clocks := 0 }
      accessCount := s.accessCount + 1 }) ∧
  ∀ (s : State) (n : LinkNotice), s.events.linkNotice = some n → s.events.write = none →
    s.engine.state = .running → s.engine.credits < s.freeEntries → s.resetLow = false →
    (∀ e ∈ s.engine.openList, e.completion = none) →
    exec .linkNoticeWrite s = .next { s with
      events.linkNotice := none
      events.write := some
        { access := s.accessCount
          address := (s.regs.evtBaseHi ++ s.regs.evtBaseLo) + BitVec.ofNat 64 (32 * s.events.tail)
          record := linkRecord s.events.phase n s.ring.clash s.ring.rotation, source := .notice, clocks := 0 }
      accessCount := s.accessCount + 1 }

/-- When its turn comes, the event writer's claim is taken: with no write in flight, the engine RUNNING, free entries
beyond the credits, and neither a completion nor a link notice ready, the front slot of the notice list is taken out
and read, and its notice's write begins, FILED for SUBSCRIBE, SOLICITED for PUBLISH, with an access number of its own
(the model's choice, log 7) and an address that goes on at 0 past 2^64 − 1 (the model's choice, log 30); otherwise the
read ends without a write (R9, R148, R152 to R154, log 14). -/
def Obligations.SlotNoticeWriteBegins : Prop :=
  ∀ s : State, s.turn .notice = true → s.resetLow = false →
    let may := s.events.write = none ∧ s.engine.state = .running ∧ s.engine.credits < s.freeEntries ∧
      (∀ e ∈ s.engine.openList, e.completion = none) ∧ s.events.linkNotice = none
    (∀ k rest, may → s.events.noticeList = k :: rest → exec .readForNotice s = .next { s with
      claims := s.claims.erase .notice
      events.noticeList := rest
      events.write := some
        { access := s.accessCount
          address := (s.regs.evtBaseHi ++ s.regs.evtBaseLo) + BitVec.ofNat 64 (32 * s.events.tail)
          record :=
            match s.slots[k].role with
            | .subscribe => filedRecord s.events.phase k s.slots[k]
            | .publish => solicitedRecord s.events.phase k s.slots[k]
          source := .notice, clocks := 0 }
      accessCount := s.accessCount + 1 }) ∧
    (¬ may ∨ s.events.noticeList = [] → exec .readForNotice s = .next { s with claims := s.claims.erase .notice })

/-- A write done advances the tail, flipping the phase at the wrap, and restarts the quiet timer; a completion's entry
is removed and its credit released, and a BARRIER left first in the list is done; the event writer then looks for a
notice (R117, R118, R148, R149, R157, log 14). That a size rewritten while a notice write is in flight is the one the
tail wraps by is the model's choice (log 34). -/
def Obligations.EventWriteDone : Prop :=
  ∀ (s : State) (w : EventWrite), s.events.write = some w →
    let next := if s.events.tail + 1 = 2 ^ s.regs.evtSize.toNat then 0 else s.events.tail + 1
    let written : State := { s with
      events.tail := next
      events.phase := if next = 0 then !s.events.phase else s.events.phase
      events.quietClocks := 0
      events.write := none }
    (w.source = .notice → exec (.eventWriteDone w.access) s = .next written.lookForNotice) ∧
    ∀ p, w.source = .completion p → exec (.eventWriteDone w.access) s = .next (State.lookForNotice { written with
      engine.openList :=
        match s.engine.openList.eraseIdx p with
        | [] => []
        | e :: l => (if e.state = .waiting ∧ e.code = 0x20 then { e with state := doneWith .ok } else e) :: l
      engine.credits := s.engine.credits - 1 })

/-- An event write that fails, or has no answer within 2 ms, is discarded and takes the engine to FAULTED with
EQ_WRITE; the tail, the phase, the quiet timer and a completion's entry and credit stay. FAULTED already, the fault
code keeps its value (R121, R150, R166). -/
def Obligations.EventWriteFails : Prop :=
  ∀ (s : State) (w : EventWrite), s.events.write = some w →
    let failed : State := { s with
      events.write := none
      engine.state := .faulted
      engine.fault := if s.engine.state = .faulted then s.engine.fault else .eqWrite }
    exec (.eventWriteFail w.access) s = .next failed ∧
    (80000 ≤ w.clocks → exec (.busResponseTimeout .eventWrite) s = .next failed)

/-- The notify line is asserted exactly while the level or the quiet condition holds (R156, R157); the quiet timer's
expiry brings its count to NOTIFY_QUIET microseconds (log 2) and changes nothing else. -/
def Obligations.QuietTimerAndNotifyLine : Prop :=
  ∀ s : State,
    (s.notifyAsserted = true ↔
      (s.regs.notifyLevel ≠ 0 ∧ s.regs.notifyLevel ≤ s.unconsumed) ∨
      (s.regs.notifyQuiet ≠ 0 ∧ 1 ≤ s.unconsumed ∧ s.regs.notifyQuiet ≤ s.events.quietClocks / 40)) ∧
    (s.resetLow = false → s.notifyPin = !s.notifyAsserted) ∧
    ∃ t, exec .quietTimerExpiry s = .next t ∧
      t = { s with events.quietClocks := max s.events.quietClocks (s.regs.notifyQuiet * 40) } ∧
      (s.regs.notifyQuiet ≠ 0 → 1 ≤ s.unconsumed → t.notifyAsserted = true)

/-- The event records of Tables 10-5 to 10-8: 32 bytes, the kind, the phase in bit 0 of byte 1, the fields of the
kind, and zero elsewhere; the codes of statuses, link states and conditions are those of Tables 7-2, 10-7 and 10-1
(R125, R151, R153 to R155, R171); on the bus byte 1 comes after the other 31 (R165), which go in rising order, each
byte alone (the model's choice, log 29), at addresses that go on at 0 past 2^64 − 1 (the model's choice, log 30). -/
def Obligations.EventRecordLayouts : Prop :=
  (∀ (phase : Bool) (e : Entry) (c : Completion) (k : SlotId) (x : Slot) (n : LinkNotice) (clash : Bool) (rotation : Half)
    (w : EventWrite),
    let phaseByte : Byte := if phase then 1 else 0
    (∃ rest, completionRecord phase e c =
        [1, phaseByte, BitVec.ofNat 8 e.index, BitVec.ofNat 8 (e.index / 256), e.tag.setWidth 8,
          (e.tag >>> 8).setWidth 8, e.code, c.status.code] ++ rest ∧ rest.length = 24 ∧
        (c.status ≠ .ok → c.status ≠ .tooLate → c.status ≠ .sent → rest = List.replicate 24 0) ∧
        (c.result = .none → rest = List.replicate 24 0) ∧
        (c.status = .ok → c.result = .fetch x →
          rest.take 8 =
            [BitVec.ofNat 8 (x.inService.toNat + 2 * (if x.role = .publish then 1 else 0) + 4 * x.fresh.toNat
                + 8 * x.overrun.toNat + 16 * x.sendPending.toNat + 32 * x.filingNumber.isNone.toNat),
              (x.source.map (·.setWidth 8)).getD 0xFF, BitVec.ofNat 8 x.length,
              x.key.extractLsb' 0 8, x.key.extractLsb' 8 8, x.key.extractLsb' 16 8,
              (x.filingNumber.getD 0).extractLsb' 0 8, (x.filingNumber.getD 0).extractLsb' 8 8] ∧
          rest.drop 8 = x.data.toList) ∧
        (∀ b : Bool, c.status = .ok ∨ c.status = .tooLate → c.result = .cancel b →
          rest = (if b then 1 else 0) :: List.replicate 23 0) ∧
        (∀ (m : RingCopy) counter cursor, c.status = .ok → c.result = .mapRead m counter cursor →
          rest =
            [m.link.code, m.condition.code, (m.successor.map (·.setWidth 8)).getD 0xFF, m.ownAddress.setWidth 8,
              m.liveMap.extractLsb' 0 8, m.liveMap.extractLsb' 8 8, m.liveMap.extractLsb' 16 8,
              m.liveMap.extractLsb' 24 8, m.rotation.extractLsb' 0 8, m.rotation.extractLsb' 8 8,
              BitVec.ofNat 8 m.unheard, if m.clash then 1 else 0,
              counter.extractLsb' 0 8, counter.extractLsb' 8 8, BitVec.ofNat 8 cursor.val] ++
              List.replicate 9 0)) ∧
    filedRecord phase k x =
      [2, phaseByte, BitVec.ofNat 8 k.val, BitVec.ofNat 8 (x.overrun.toNat + 2 * x.filingNumber.isNone.toNat),
        (x.source.map (·.setWidth 8)).getD 0xFF, BitVec.ofNat 8 x.length, x.key.extractLsb' 0 8,
        x.key.extractLsb' 8 8, x.key.extractLsb' 16 8, 0, (x.filingNumber.getD 0).extractLsb' 0 8,
        (x.filingNumber.getD 0).extractLsb' 8 8] ++ List.replicate 20 0 ∧
    solicitedRecord phase k x =
      [3, phaseByte, BitVec.ofNat 8 k.val, 0, 0, 0, x.key.extractLsb' 0 8, x.key.extractLsb' 8 8,
        x.key.extractLsb' 16 8] ++ List.replicate 23 0 ∧
    linkRecord phase n clash rotation =
      [4, phaseByte, n.condition.code, (n.successor.map (·.setWidth 8)).getD 0xFF, BitVec.ofNat 8 n.changes,
        BitVec.ofNat 8 clash.toNat, rotation.extractLsb' 0 8, rotation.extractLsb' 8 8] ++ List.replicate 24 0 ∧
    w.busOrder =
      ((List.range 32).filter (· ≠ 1) ++ [1]).map fun i => (w.address + BitVec.ofNat 64 i, w.record.getD i 0)) ∧
  Status.ok.code = 0 ∧ Status.sent.code = 1 ∧ Status.cancelled.code = 2 ∧ Status.tooLate.code = 3 ∧
  Status.slotClosed.code = 4 ∧ Status.linkDown.code = 5 ∧ Status.listFull.code = 6 ∧ Status.badCheck.code = 16 ∧
  Status.stale.code = 17 ∧ Status.badCommand.code = 18 ∧ Status.badSlot.code = 19 ∧ Status.badValue.code = 20 ∧
  Status.slotLive.code = 21 ∧ Status.notInService.code = 22 ∧ Status.linkBusy.code = 23 ∧
  LinkState.off.code = 0 ∧ LinkState.listen.code = 1 ∧ LinkState.joining.code = 2 ∧ LinkState.member.code = 3 ∧
  LinkState.holding.code = 4 ∧ LinkState.inviting.code = 5 ∧ LinkState.passing.code = 6 ∧
  LinkState.withdrawn.code = 7 ∧
  Condition.stopped.code = 0 ∧ Condition.listening.code = 1 ∧ Condition.inRing.code = 2 ∧ Condition.alone.code = 3 ∧
  Condition.withdrawn.code = 4

/-! ### Arrivals and the ring controller -/

/-- As the line leaves the idle level, after at least 2 bt there, and holds the active level through the middle of a bit
time, a hunting receiver that is not held reports an activity start: it assembles, and the running ring timers are
held. An active level that comes sooner, or ends before the middle of its bit time, is not reported; a receiver that
does not hunt takes no notice (R32, R35, R39 to R41). That the operand is how long the line stays active, that a row
while it is active, or of no clock, changes nothing, and that the 2 bt are counted anew after an unreported level, a
glitch too, is the model's choice (log 8). So is that a level of a frame already on the line at LINK_START is reported
like any other after 2 bt of idle line, by R32 and against R43 (log 33). -/
def Obligations.ActivityStartHolds : Prop :=
  ∀ (s : State) (n : Nat),
    let goesActive := s.lineActive = 0 ∧ n ≠ 0
    let hunts := s.line.receiver = .hunting ∧ s.transmitting = false
    let reported := 2 * s.line.divider ≤ s.line.idleClocks ∧ s.line.divider ≤ 2 * n
    (¬ goesActive → exec (.activityStart n) s = .next s) ∧
    (goesActive → hunts → reported → exec (.activityStart n) s = .next { s with
      lineActive := n
      line.receiver := .assembling
      ring.window := match s.ring.window with | .running c => .held c | x => x
      ring.silence := match s.ring.silence with | .running c => .held c | x => x
      ring.pause := match s.ring.pause with | .running c => .held c | x => x }) ∧
    (goesActive → hunts → ¬ reported →
      exec (.activityStart n) s = .next { s with lineActive := n, line.idleClocks := 0 }) ∧
    (goesActive → ¬ hunts → exec (.activityStart n) s = .next { s with lineActive := n })

/-- What every arrival (DATA_FRAME, SOLICIT_FRAME, TOKEN_FRAME, INVITE_FRAME, JOIN_FRAME, CLAIM_FRAME, FOREIGN_FRAME,
GARBLED_FRAME) does first, in every link state (R42, R65, R67): a known kind marks its source and sets the clash flag
when that is the part's own address, a foreign or garbled frame does neither; the silence timer restarts where it
runs, the window is settled, and the receiver hunts, with 2 bt of idle line to see before the next activity start
(R32), so that no arrival is taken before one; the line is at the idle level after a valid frame (R28), and after a
garbled one as it was (log 8). A DATA or SOLICIT frame goes to the filing path, its claim behind those waiting at the
slot table (R9, R44, R45). The rest is the rule of the link state: no slot, register, option or cursor
changes. -/
def Obligations.ArrivalMarksSource : Prop :=
  ∀ (c : Instr) (a : Arrival) (r : Option FilingRequest) (s : State), ArrivesAs c a r → s.takesArrival r →
    ∃ t, exec c s = .next t ∧
      (∀ b, marked t.ring.liveMap b = (marked s.ring.liveMap b || decide (a.source = some b))) ∧
      t.ring.clash = (s.ring.clash || decide (a.source = some s.ring.ownAddress)) ∧
      (s.ring.link.runsTimers = true → t.ring.link.runsTimers = true → t.ring.silence = .running 0) ∧
      t.ring.window = .stopped ∧
      t.line = { s.line with receiver := t.line.receiver, idleClocks := 0, waiting := t.line.waiting } ∧
      (t.ring.link ≠ .off → t.line.receiver = .hunting) ∧ t.hears = false ∧
      t.lineActive = (if a = .garbled then s.lineActive else 0) ∧
      t.ring.ownAddress = s.ring.ownAddress ∧ t.ring.budget = s.ring.budget ∧
      t.ring.inviteInterval = s.ring.inviteInterval ∧ t.ring.listenOnly = s.ring.listenOnly ∧
      t.ring.selfFiling = s.ring.selfFiling ∧
      t.sched.cursor = s.sched.cursor ∧ t.sched.snapshot = s.sched.snapshot ∧
      t.engine = { s.engine with openList := t.engine.openList } ∧
      t.events = { s.events with linkNotice := t.events.linkNotice } ∧
      t.regs = s.regs ∧ t.resetLow = s.resetLow ∧ t.accessCount = s.accessCount ∧
      t.slots = s.slots ∧ t.filingCounter = s.filingCounter ∧
      (r = none → t.filing = s.filing ∧ t.claims = s.claims) ∧
      (r ≠ none → t.filing = r ∧ t.claims = s.claims ++ [.filing])

/-- The ring controller's shared steps, spelled out: what an arrival does first, the start time of a waiting request
measured again when it came during the activity (R36, R37, R67), an entry to HOLDING (R73, R91), the start of a pass
(R74, R80), the end of a holding (R71, R75, R79), the unheard count and WITHDRAWN (R82, R83), OFF (R87), the link
condition of each link state (R84), and the comparison that hands a link change on and merges it (R84, R155). That the
idle line is counted from the arrival's report, and that the line is then idle, or after a garbled frame as it was, is
the model's choice (log 8). That a TOKEN begins over an activity on the line, the reception dropped and a held silence
timer released, is the model's reading (log 13); so is that a holding's end leaves sending open as it was (log 20) and
the pass attempt its value (log 22). -/
def Obligations.RingSteps : Prop :=
  ∀ s : State,
    (s.ring.link = .off → s.ring.condition = .stopped) ∧
    (s.ring.link = .listen ∨ s.ring.link = .joining → s.ring.condition = .listening) ∧
    (s.ring.link = .member ∨ s.ring.link = .holding ∨ s.ring.link = .inviting ∨ s.ring.link = .passing →
      (s.ring.successor ≠ none → s.ring.condition = .inRing) ∧
      (s.ring.successor = none → s.ring.condition = .alone)) ∧
    (s.ring.link = .withdrawn → s.ring.condition = .withdrawn) ∧
    (∀ a, s.noteArrival a = { s with
      lineActive := if a = .garbled then s.lineActive else 0
      line.receiver := .hunting
      line.idleClocks := 0
      line.waiting := s.line.waiting.map fun w =>
        if w.gap * s.line.divider ≤ w.elapsed then { kind := w.kind, gap := 4, elapsed := 0 } else w
      ring.liveMap := match a.source with | some x => setMark s.ring.liveMap x | none => s.ring.liveMap
      ring.clash := s.ring.clash || decide (a.source = some s.ring.ownAddress)
      ring.silence := if s.ring.link = .off ∨ s.ring.link = .withdrawn then s.ring.silence else .running 0
      ring.window := .stopped
      ring.pause := .stopped }) ∧
    (∀ gap, s.startHolding gap = { s with
      ring.link := .holding
      ring.rotation := s.ring.rotation + 1
      ring.inviteCountdown :=
        if s.ring.successor ≠ none ∧ s.ring.inviteInterval ≠ 0 then s.ring.inviteCountdown - 1
        else s.ring.inviteCountdown
      ring.window := .stopped
      ring.pause := .stopped
      ring.awaited := none
      sched.holding := true
      sched.framesLeft := s.ring.budget
      sched.sendingOpen := true
      line.waiting := some { kind := .opportunity, gap := gap, elapsed := 0 } }) ∧
    (∀ d attempt, s.passToken d attempt = { s with
      ring.link := .passing
      ring.awaited := some d
      ring.attempt := attempt
      ring.silence := match s.ring.silence with | .held c => .running c | x => x
      sched.holding := false
      sched.framesLeft := 0
      line.ringFrame := some { kind := .token, destination := d }
      line.txClocks := 0
      line.waiting := none
      line.receiver := if s.line.receiver = .assembling then .hunting else s.line.receiver }) ∧
    (∀ link, s.leaveTo link = { s with
      ring.link := link
      ring.awaited := none
      sched.holding := false
      sched.framesLeft := 0
      line.waiting := none }) ∧
    (∀ link, s.ring.unheard + 1 < 6 → s.unheardTo link = { s with
      ring.link := link
      ring.awaited := none
      ring.unheard := s.ring.unheard + 1
      sched.holding := false
      sched.framesLeft := 0
      line.waiting := none }) ∧
    (∀ link, 6 ≤ s.ring.unheard + 1 → s.unheardTo link = { s with
      ring.link := .withdrawn
      ring.awaited := none
      ring.unheard := 6
      ring.window := .stopped
      ring.silence := .stopped
      ring.pause := .stopped
      sched.holding := false
      sched.framesLeft := 0
      line.waiting := none
      engine.openList := endWaits .send .linkDown s.engine.openList }) ∧
    s.reachOff = { s with
      ring.link := .off
      ring.awaited := none
      ring.attempt := .first
      ring.stopRequest := false
      ring.unheard := if s.ring.link = .withdrawn then 0 else s.ring.unheard
      ring.window := .stopped
      ring.silence := .stopped
      ring.pause := .stopped
      line.receiver := .stopped
      line.waiting := none
      sched.holding := false
      sched.framesLeft := 0
      sched.stopRequest := false
      engine.openList := endWaits .linkStop .ok (endWaits .send .linkDown s.engine.openList) } ∧
    ((s.ring.condition ≠ s.ring.lastCondition ∨
        s.ring.condition = .inRing ∧ s.ring.successor ≠ s.ring.lastSuccessor) →
      s.reportLink = { s with
        ring.lastCondition := s.ring.condition
        ring.lastSuccessor := s.ring.successor
        events.linkNotice := some
          { condition := s.ring.condition
            successor := s.ring.successor
            changes := match s.events.linkNotice with | some n => if n.changes < 255 then n.changes + 1 else 255 | none => 1 } }) ∧
    (s.ring.condition = s.ring.lastCondition → (s.ring.condition = .inRing → s.ring.successor = s.ring.lastSuccessor) →
      s.reportLink = s)

/-- A TOKEN for the part, an INVITE for it, and any other arrival in LISTEN and MEMBER (R68, R70, R72): a holding 6 bt
after the TOKEN, a JOIN ready 6 bt after the INVITE, or no change of state with a JOIN ready before not sent. A
listen-only part takes each as a frame from another node. -/
def Obligations.ArrivalsInListenAndMember : Prop :=
  ∀ (c : Instr) (a : Arrival) (r : Option FilingRequest) (s : State),
    ArrivesAs c a r → s.takesArrival r → s.ring.stopRequest = false →
    (s.ring.link = .listen ∨ s.ring.link = .member) →
    let own := s.ring.ownAddress
    let n := s.noteArrival a
    (s.ring.listenOnly = false → (∃ x, a = .token x own) →
      exec c s = .next ((n.startHolding 6).reportLink.handOnOf r)) ∧
    (∀ x, s.ring.listenOnly = false → a = .invite x own →
      exec c s = .next ((State.reportLink { n with
        line.waiting := some { kind := .join x, gap := 6, elapsed := 0 } }).handOnOf r)) ∧
    (s.ring.listenOnly = false → (∀ x, a ≠ .token x own ∧ a ≠ .invite x own) →
      exec c s = .next ((State.reportLink { n with line.waiting := none }).handOnOf r)) ∧
    (s.ring.listenOnly = true → exec c s = .next (n.reportLink.handOnOf r))

/-- Arrivals in JOINING and PASSING (R71, R79, R82): the awaited answer sets the unheard count to 0; a TOKEN for the
part starts a holding, in JOINING only from the inviter; a garbled frame and a frame from another node leave for
LISTEN or MEMBER, the second counted unheard. -/
def Obligations.ArrivalsInJoiningAndPassing : Prop :=
  ∀ (c : Instr) (a : Arrival) (r : Option FilingRequest) (s : State),
    ArrivesAs c a r → s.takesArrival r → s.ring.stopRequest = false →
    let own := s.ring.ownAddress
    let n := s.noteArrival a
    let heard : State := { n with ring.unheard := 0 }
    let forPart := ∃ x, a = .token x own
    let fromAwaited := a.source ≠ none ∧ a.source = s.ring.awaited
    (s.ring.link = .joining →
      (a = .garbled → exec c s = .next ((n.leaveTo .listen).reportLink.handOnOf r)) ∧
      (forPart → fromAwaited → exec c s = .next ((heard.startHolding 6).reportLink.handOnOf r)) ∧
      (a ≠ .garbled → ¬ (forPart ∧ fromAwaited) →
        exec c s = .next ((n.unheardTo .listen).reportLink.handOnOf r))) ∧
    (s.ring.link = .passing →
      (a = .garbled → exec c s = .next ((n.leaveTo .member).reportLink.handOnOf r)) ∧
      (fromAwaited → forPart → exec c s = .next ((heard.startHolding 6).reportLink.handOnOf r)) ∧
      (fromAwaited → ¬ forPart → exec c s = .next ((heard.leaveTo .member).reportLink.handOnOf r)) ∧
      (¬ fromAwaited → forPart → exec c s = .next ((n.startHolding 6).reportLink.handOnOf r)) ∧
      (a ≠ .garbled → ¬ fromAwaited → ¬ forPart →
        exec c s = .next ((n.unheardTo .member).reportLink.handOnOf r)))

/-- Arrivals in HOLDING, the lone pause included, and in INVITING (R75, R78, R81): a TOKEN for the part starts a new
holding; the awaited JOIN calls for a TOKEN 6 bt later; a garbled frame abandons the holding, or within the window
advances the invite cursor and leads to a TOKEN 4 bt later or the lone pause (outside it: log 16); any other frame is
a yield. -/
def Obligations.ArrivalsInHoldingAndInviting : Prop :=
  ∀ (c : Instr) (a : Arrival) (r : Option FilingRequest) (s : State),
    ArrivesAs c a r → s.takesArrival r → s.ring.stopRequest = false →
    let own := s.ring.ownAddress
    let n := s.noteArrival a
    let forPart := ∃ x, a = .token x own
    let inWindow := s.ring.window ≠ .stopped
    let answers := inWindow ∧ ∃ x, a = .join x own ∧ s.ring.awaited = some x
    let next := if s.ring.inGap (s.ring.inviteCursor + 1) then s.ring.inviteCursor + 1 else own + 1
    (s.ring.link = .holding →
      (a = .garbled → exec c s = .next ((n.leaveTo .member).reportLink.handOnOf r)) ∧
      (forPart → exec c s = .next ((n.startHolding 6).reportLink.handOnOf r)) ∧
      (a ≠ .garbled → ¬ forPart → exec c s = .next ((n.unheardTo .member).reportLink.handOnOf r))) ∧
    (s.ring.link = .inviting →
      (a = .garbled → inWindow → s.ring.alone = true →
        exec c s = .next ((State.reportLink { n with
          ring.inviteCursor := next, ring.link := .holding, ring.awaited := none
          ring.pause := .running 0 }).handOnOf r)) ∧
      (a = .garbled → inWindow → s.ring.alone = false →
        exec c s = .next ((State.reportLink { n with
          ring.inviteCursor := next
          line.waiting := some { kind := .token, gap := 4, elapsed := 0 } }).handOnOf r)) ∧
      (a = .garbled → ¬ inWindow → exec c s = .next (n.reportLink.handOnOf r)) ∧
      (answers → exec c s = .next ((State.reportLink { n with
        line.waiting := some { kind := .token, gap := 6, elapsed := 0 } }).handOnOf r)) ∧
      (forPart → exec c s = .next ((n.startHolding 6).reportLink.handOnOf r)) ∧
      (a ≠ .garbled → ¬ answers → ¬ forPart →
        exec c s = .next ((n.unheardTo .member).reportLink.handOnOf r)))

/-- Under a stop request any arrival takes the link to OFF, its source marked (R86); in WITHDRAWN an arrival only
marks its source (R83). That the frame's filing request is handed on as the link reaches OFF, and filed after, is the
model's choice (log 27). -/
def Obligations.ArrivalsUnderStopAndWithdrawn : Prop :=
  ∀ (c : Instr) (a : Arrival) (r : Option FilingRequest) (s : State), ArrivesAs c a r → s.takesArrival r →
    let n := s.noteArrival a
    (s.ring.stopRequest = true → exec c s = .next (n.reachOff.reportLink.handOnOf r)) ∧
    (s.ring.stopRequest = false → s.ring.link = .withdrawn →
      exec c s = .next (n.reportLink.handOnOf r))

/-! ### Filing -/

/-- The claims at the slot table (R9): one that comes goes behind those waiting; its turn comes when it is the oldest
and no find-and-snapshot stands to be taken, which goes ahead of all. A filing request handed on waits with its claim
(R45); the event writer claims a read for notice when it looks, no claim of its own waits, and a slot notice may be
written: none in flight, the list not empty, the engine RUNNING with free entries beyond the credits, and neither a
completion nor the link notice ready (R148, log 14). -/
def Obligations.ClaimsTakenInOrder : Prop :=
  ∀ s : State,
    (∀ c, s.turn c = true ↔
      (∃ rest, s.claims = c :: rest) ∧
        ¬ ((∃ w, s.line.waiting = some w ∧ w.kind = .claimed) ∧ s.sched.snapshot = none ∧ s.line.ringFrame = none)) ∧
    (∀ r, s.handOn r = { s with filing := some r, claims := s.claims ++ [.filing] }) ∧
    let ready := s.events.write = none ∧ s.events.noticeList ≠ [] ∧ s.engine.state = .running ∧
      s.engine.credits < s.freeEntries ∧ (∀ e ∈ s.engine.openList, e.completion = none) ∧ s.events.linkNotice = none
    (ready → .notice ∉ s.claims → s.lookForNotice = { s with claims := s.claims ++ [.notice] }) ∧
    (¬ ready ∨ .notice ∈ s.claims → s.lookForNotice = s)

/-- A slot's key matches a frame's key: all 24 bits, or with mask in use the bits its mask selects; a key it matches,
written into it, leaves what it matches unchanged (R46, Table 3-1). -/
def Obligations.KeyMatching : Prop :=
  (∀ (x : Slot) (key : Key),
    (x.maskInUse = false → (x.matchesKey key = true ↔ x.key = key)) ∧
    (x.maskInUse = true →
      (x.matchesKey key = true ↔ ∀ i < 24, x.mask.getLsbD i = true → x.key.getLsbD i = key.getLsbD i)) ∧
    (x.maskInUse = true → x.mask = 0x000000 → x.matchesKey key = true) ∧
    (x.maskInUse = true → x.mask = 0xFFFFFF → (x.matchesKey key = true ↔ x.key = key)) ∧
    ∀ (source : Option Addr) (length : Nat) (data : Vector Byte 16) (number : Option Half),
      { x with source := source, length := length, data := data, filingNumber := number }.matchesKey key =
        x.matchesKey key) ∧
  (∀ (x : Slot) (key other : Key), x.matchesKey key = true →
    { x with key := key }.matchesKey other = x.matchesKey other) ∧
  ∀ x : Slot, x.key = 0x41A000 → x.maskInUse = true →
    (x.mask = 0xFFFF00 → x.matchesKey 0x41A000 = true ∧ x.matchesKey 0x41A0C7 = true ∧ x.matchesKey 0x41B000 = false) ∧
    (x.mask = 0xFF0000 → x.matchesKey 0x41A000 = true ∧ x.matchesKey 0x41A0C7 = true ∧ x.matchesKey 0x41B000 = true)

/-- FILE_DATA (R7, R8, R47 to R53, R57): the first in-service SUBSCRIBE slot with a matching key that is no locked
depot member gets the frame, or discards it when fresh under keep first; a notify slot joins the back of the notice
list; with no such slot the frame is dropped. The filing is taken at its claim's turn (R9, R45), and the event writer
then looks for a notice (R148, log 14). -/
def Obligations.DataFiling : Prop :=
  ∀ (s : State) (source : Addr) (key : Key) (payload : List Byte), s.filing = some (.data source key payload) →
    s.turn .filing = true →
    let claims := s.claims.erase .filing
    let takes (k : SlotId) := s.slots[k].inService = true ∧ s.slots[k].role = .subscribe ∧
      s.slots[k].matchesKey key = true ∧ ¬ (s.slots[k].depotEnd = false ∧ s.slots[k].fresh = true)
    ((∀ k, ¬ takes k) → exec .fileData s = .next (State.lookForNotice { s with filing := none, claims := claims })) ∧
    ∀ k, takes k → (∀ j, j < k → ¬ takes j) →
      let x := s.slots[k]
      let list := if x.notify = true ∧ k ∉ s.events.noticeList then s.events.noticeList ++ [k] else s.events.noticeList
      (x.fresh = true ∧ x.keepFirst = true → exec .fileData s = .next (State.lookForNotice { s with
        filing := none, claims := claims
        slots := s.slots.set k { x with overrun := true, sendPending := false }
        events.noticeList := list })) ∧
      (¬ (x.fresh = true ∧ x.keepFirst = true) → exec .fileData s = .next (State.lookForNotice { s with
        filing := none, claims := claims
        filingCounter := s.filingCounter + 1
        slots := s.slots.set k { x with
          key := key, length := payload.length
          data := Vector.ofFn fun i : Fin 16 => payload.getD i.val 0
          source := some source, filingNumber := some (s.filingCounter + 1), fresh := true, overrun := x.fresh
          sendPending := false }
        events.noticeList := list }))

/-- FILE_SOLICIT (R54 to R57): the first in-service PUBLISH slot with a matching key has send pending set under
answer, or joins the notice list under notify; with no such slot the frame is dropped. The filing counter stays. The
filing is taken at its claim's turn (R9, R45), and the event writer then looks for a notice (R148, log 14). -/
def Obligations.SolicitFiling : Prop :=
  ∀ (s : State) (source : Addr) (key : Key), s.filing = some (.solicit source key) →
    s.turn .filing = true →
    let claims := s.claims.erase .filing
    let takes (k : SlotId) := s.slots[k].inService = true ∧ s.slots[k].role = .publish ∧
      s.slots[k].matchesKey key = true
    ((∀ k, ¬ takes k) → exec .fileSolicit s = .next (State.lookForNotice { s with filing := none, claims := claims })) ∧
    ∀ k, takes k → (∀ j, j < k → ¬ takes j) →
      let x := s.slots[k]
      (x.answer = true → exec .fileSolicit s = .next (State.lookForNotice { s with
        filing := none, claims := claims, slots := s.slots.set k { x with sendPending := true } })) ∧
      (x.answer = false → x.notify = true → exec .fileSolicit s = .next (State.lookForNotice { s with
        filing := none, claims := claims
        events.noticeList :=
          if k ∈ s.events.noticeList then s.events.noticeList else s.events.noticeList ++ [k] })) ∧
      (x.answer = false → x.notify = false →
        exec .fileSolicit s = .next (State.lookForNotice { s with filing := none, claims := claims }))

/-! ### Timers -/

/-- When the silence timer has run for 64 + 16 × own address bt, or the lone pause for 48 bt, its expiry acts. A
silence expiry in LISTEN or MEMBER with listen-only clear is a claim: an entry to HOLDING with a CLAIM begun at once;
in every other state it only restarts the timer. The end of the lone pause is an entry to HOLDING whose first
opportunity comes at once (R40, R41, R68, R69, R72, R73, R81). -/
def Obligations.SilenceExpiryAndPauseEnd : Prop :=
  ∀ (s : State) (n : Nat),
    let restarted : State := { s with ring.silence := .running 0 }
    let full := (64 + 16 * s.ring.ownAddress.toNat) * s.line.divider ≤ n
    (s.ring.silence = .running n → full → (s.ring.link = .listen ∨ s.ring.link = .member) → s.ring.listenOnly = false →
      exec .silenceTimeout s = .next (State.reportLink { restarted.startHolding 0 with
        line.ringFrame := some { kind := .claim, destination := 0 }
        line.txClocks := 0
        line.waiting := none
        line.receiver := if s.line.receiver = .assembling then .hunting else s.line.receiver })) ∧
    (s.ring.silence = .running n → full → s.ring.link = .listen → s.ring.listenOnly = true →
      exec .silenceTimeout s = .next restarted.reportLink) ∧
    (s.ring.silence = .running n → full → s.ring.link ≠ .listen → s.ring.link ≠ .member →
      exec .silenceTimeout s = .next restarted.reportLink) ∧
    (s.ring.pause = .running n → 48 * s.line.divider ≤ n → exec .lonePauseEnd s = .next (s.startHolding 0).reportLink)

/-- A response window's expiry, when the window has run for 24 bt (R39, R71, R77, R78, R80): in JOINING the join fails
unheard; in INVITING the cursor advances and a TOKEN goes to the successor, or the lone pause begins; in PASSING the
TOKEN is repeated once, then the mark is cleared and the pass goes to the next successor, or a new holding begins. -/
def Obligations.ResponseWindowExpiry : Prop :=
  ∀ (s : State) (n : Nat), s.ring.window = .running n → 24 * s.line.divider ≤ n →
    let w : State := { s with ring.window := .stopped }
    let next := if s.ring.inGap (s.ring.inviteCursor + 1) then s.ring.inviteCursor + 1 else s.ring.ownAddress + 1
    (s.ring.link = .joining →
      exec .responseWindowExpiry s = .next (w.unheardTo .listen).reportLink) ∧
    (∀ d, s.ring.link = .inviting → s.ring.successor = some d →
      exec .responseWindowExpiry s =
        .next (State.passToken { w with ring.inviteCursor := next } d .first).reportLink) ∧
    (s.ring.link = .inviting → s.ring.successor = none →
      exec .responseWindowExpiry s = .next (State.reportLink { w with
        ring.inviteCursor := next, ring.link := .holding, ring.awaited := none, ring.pause := .running 0 })) ∧
    (∀ d, s.ring.link = .passing → s.ring.awaited = some d → s.ring.attempt = .first →
      exec .responseWindowExpiry s = .next (w.passToken d .second).reportLink) ∧
    (∀ d, s.ring.link = .passing → s.ring.awaited = some d → s.ring.attempt = .second →
      let u : State := { w with ring.liveMap := clearMark s.ring.liveMap d }
      (∀ e, successorOf s.ring.ownAddress (clearMark s.ring.liveMap d) = some e →
        exec .responseWindowExpiry s = .next (u.passToken e .first).reportLink) ∧
      (successorOf s.ring.ownAddress (clearMark s.ring.liveMap d) = none →
        exec .responseWindowExpiry s = .next (u.startHolding 0).reportLink)) ∧
    (s.ring.link.awaits = false → exec .responseWindowExpiry s = .next w.reportLink)

/-! ### Sending -/

/-- A send opportunity whose start time has come, with the holding active, sending open and no stop request (R36, R37,
R92): with frames left it claims a find-and-snapshot; with none, sending ends (EndOfSending). Before its start time,
and during an activity, it waits. -/
def Obligations.SendOpportunity : Prop :=
  ∀ (s : State) (w : Waiting), s.line.waiting = some w → w.kind = .opportunity → s.sched.holding = true →
    s.sched.sendingOpen = true → s.sched.stopRequest = false → s.transmitting = false →
    (w.elapsed < w.gap * s.line.divider ∨ s.line.receiver = .assembling → exec .sendOpportunity s = .next s) ∧
    (w.gap * s.line.divider ≤ w.elapsed → s.line.receiver ≠ .assembling → s.sched.framesLeft ≠ 0 →
      exec .sendOpportunity s = .next { s with line.waiting := some { w with kind := .claimed } })

/-- Sending ends, at an opportunity with no frames left or a scan that finds no slot (R74, R76, R77, R93, R97): when
an invite is due and the gap is not empty an INVITE begins to the cursor's address, moved into the gap if it lies
outside it, and the countdown is reloaded unless the part is alone; otherwise a TOKEN begins to the successor. That a
claim's frame begins over an activity that started while the claim stood, the reception dropped and the silence timer
released, is the model's reading (log 13). -/
def Obligations.EndOfSending : Prop :=
  ∀ (s : State) (w : Waiting), s.line.waiting = some w → s.transmitting = false →
    let r := s.ring
    let ends := (w.kind = .opportunity ∧ s.sched.holding = true ∧ s.sched.sendingOpen = true ∧
        s.sched.stopRequest = false ∧ w.gap * s.line.divider ≤ w.elapsed ∧ s.line.receiver ≠ .assembling ∧
        s.sched.framesLeft = 0) ∨
      (w.kind = .claimed ∧ ∀ k : SlotId, ¬ (s.slots[k].inService = true ∧ s.slots[k].sendPending = true))
    let row : Instr := if w.kind = .opportunity then .sendOpportunity else .findAndSnapshot
    let due := r.alone = true ∨ (r.inviteInterval ≠ 0 ∧ r.inviteCountdown = 0)
    let target := if r.inGap r.inviteCursor then r.inviteCursor else r.ownAddress + 1
    let closed : State := { s with sched.sendingOpen := false }
    (ends → due → r.inGap (r.ownAddress + 1) = true → exec row s = .next (State.reportLink { closed with
      ring.link := .inviting
      ring.awaited := some target
      ring.inviteCursor := target
      ring.inviteCountdown := if r.alone then r.inviteCountdown else r.inviteInterval
      ring.silence := match r.silence with | .held c => .running c | x => x
      sched.holding := false
      sched.framesLeft := 0
      line.ringFrame := some { kind := .invite, destination := target }
      line.txClocks := 0
      line.waiting := none
      line.receiver := if s.line.receiver = .assembling then .hunting else s.line.receiver })) ∧
    (∀ d, ends → due → r.inGap (r.ownAddress + 1) = false → r.successor = some d →
      exec row s = .next (State.passToken { closed with ring.inviteCountdown := r.inviteInterval } d .first).reportLink) ∧
    (∀ d, ends → ¬ due → r.successor = some d → exec row s = .next (closed.passToken d .first).reportLink)

/-- A find-and-snapshot finds the first slot in service with send pending from the cursor upward, wrapping; its send
pending is cleared, its frame (DATA for PUBLISH, SOLICIT for SUBSCRIBE) starts from the snapshot, the cursor moves
past it, and its waiting confirm-SENDs are attached (R16, R93 to R95). It is taken ahead of every claim waiting at the
slot table (R9). That the frame starts over an activity that began while the claim stood, the reception dropped and
the silence timer released, is the model's reading (log 13). -/
def Obligations.FindAndSnapshot : Prop :=
  ∀ (s : State) (w : Waiting) (k : SlotId), s.line.waiting = some w → w.kind = .claimed → s.transmitting = false →
    s.slots[k].inService = true → s.slots[k].sendPending = true →
    (∀ j : SlotId, (j - s.sched.cursor).val < (k - s.sched.cursor).val →
      ¬ (s.slots[j].inService = true ∧ s.slots[j].sendPending = true)) →
    let x := s.slots[k]
    exec .findAndSnapshot s = .next { s with
      slots := s.slots.set k { x with sendPending := false }
      sched.snapshot := some
        { slot := k, key := x.key
          body := match x.role with | .publish => .data x.length x.data | .subscribe => .solicit }
      sched.cursor := k + 1
      line.ringFrame := none
      line.txClocks := 0
      line.waiting := none
      line.receiver := if s.line.receiver = .assembling then .hunting else s.line.receiver
      ring.silence := match s.ring.silence with | .held c => .running c | y => y
      engine.openList := s.engine.openList.map fun e =>
        if e.state = .waiting ∧ e.code = CommandCode.send.byte ∧ e.slot = some k then { e with state := .attached }
        else e }

/-- A waiting JOIN or TOKEN begins at its start time, and waits before it and while an activity is on the line: a JOIN
takes the link to JOINING, a TOKEN to PASSING, but under a stop request the TOKEN leaves the link state (R36, R37,
R70, R78, R86). The TOKEN goes to the successor of this moment: for a stop taken after the awaited JOIN that is the
joined node, the model's choice (log 35). -/
def Obligations.RingFrameStarts : Prop :=
  ∀ (s : State) (w : Waiting), s.line.waiting = some w → s.transmitting = false →
    let begun (kind : RingFrameKind) (d : Addr) : LineUnit := { s.line with
      ringFrame := some { kind := kind, destination := d }, txClocks := 0, waiting := none }
    let released := match s.ring.silence with | .held c => Timer.running c | x => x
    let come := w.gap * s.line.divider ≤ w.elapsed ∧ s.line.receiver ≠ .assembling
    (¬ come → exec .ringFrameStart s = .next s) ∧
    (∀ a, w.kind = .join a → come →
      exec .ringFrameStart s = .next (State.reportLink { s with
        line := begun .join a, ring.link := .joining, ring.awaited := some a, ring.silence := released })) ∧
    (∀ d, w.kind = .token → come → s.ring.successor = some d → s.ring.stopRequest = false →
      exec .ringFrameStart s = .next (s.passToken d .first).reportLink) ∧
    (∀ d, w.kind = .token → come → s.ring.successor = some d → s.ring.stopRequest = true →
      exec .ringFrameStart s = .next (State.reportLink { s with
        line := begun .token d, ring.silence := released, sched.holding := false, sched.framesLeft := 0 }))

/-- The end of a slot's frame, when it has been sent to its end (R36, R40, R58, R86, R96, R103): its attached
confirm-SENDs are SENT, the snapshot is discarded, one frame fewer is left, the silence timer restarts, and under
self-filing the frame is handed to the filing path; then the next opportunity waits 4 bt, or under a stop request a
TOKEN does, or when alone the link reaches OFF, the request handed on then filed after it (the model's choice, log
27). -/
def Obligations.SlotFrameEnds : Prop :=
  ∀ (s : State) (f : Snapshot), s.sched.snapshot = some f → s.ring.link ≠ .off → s.ring.link ≠ .withdrawn →
    s.sentToEnd → (s.ring.selfFiling = true → s.filing = none) →
    let own := s.ring.ownAddress
    let ended : State := { s with
      sched.snapshot := none
      sched.framesLeft := s.sched.framesLeft - 1
      ring.silence := .running 0
      line.ringFrame := none, line.idleClocks := 0, line.gapClocks := 0
      engine.openList := s.engine.openList.map fun e =>
        if e.state = .attached ∧ e.slot = some f.slot then { e with state := doneWith .sent } else e }
    let t := if s.ring.selfFiling then
        ended.handOn (match f.body with
          | .data length bytes => .data own f.key (bytes.toList.take length)
          | .solicit => .solicit own f.key)
      else ended
    (s.ring.stopRequest = false → s.sched.holding = true → s.sched.sendingOpen = true →
      exec .frameEnd s = .next (State.reportLink { t with
        line.waiting := some { kind := .opportunity, gap := 4, elapsed := 0 } })) ∧
    (s.ring.stopRequest = false → (s.sched.holding = false ∨ s.sched.sendingOpen = false) →
      exec .frameEnd s = .next t.reportLink) ∧
    (s.ring.stopRequest = true → s.ring.alone = false → exec .frameEnd s = .next (State.reportLink { t with
      line.waiting := some { kind := .token, gap := 4, elapsed := 0 } })) ∧
    (s.ring.stopRequest = true → s.ring.alone = true → exec .frameEnd s = .next t.reachOff.reportLink)

/-- The end of a ring-controller frame, when it has been sent to its end (R36, R37, R39, R40, R69, R86): the silence
timer restarts; after a CLAIM the first opportunity waits 4 bt, after a TOKEN, an INVITE or a JOIN the response window
starts; under a stop request the link reaches OFF after a TOKEN or a JOIN, and after a CLAIM or an INVITE when alone,
else a TOKEN waits 4 bt. -/
def Obligations.RingFrameEnds : Prop :=
  ∀ (s : State) (f : RingFrame), s.line.ringFrame = some f → s.ring.link ≠ .off → s.ring.link ≠ .withdrawn →
    s.sentToEnd →
    let ended : State := { s with
      line.ringFrame := none, line.idleClocks := 0, line.gapClocks := 0, ring.silence := .running 0 }
    let opens := f.kind = .claim ∨ f.kind = .invite
    (s.ring.stopRequest = false → f.kind = .claim → exec .ringFrameEnd s = .next (State.reportLink { ended with
      line.waiting := some { kind := .opportunity, gap := 4, elapsed := 0 } })) ∧
    (s.ring.stopRequest = false → f.kind ≠ .claim → exec .ringFrameEnd s = .next (State.reportLink { ended with
      ring.window := .running 0 })) ∧
    (s.ring.stopRequest = true → (¬ opens ∨ s.ring.alone = true) →
      exec .ringFrameEnd s = .next ended.reachOff.reportLink) ∧
    (s.ring.stopRequest = true → opens → s.ring.alone = false →
      exec .ringFrameEnd s = .next (State.reportLink { ended with
        line.waiting := some { kind := .token, gap := 4, elapsed := 0 } }))

/-! ### The live map and the line -/

/-- The successor is the first marked address above the own address, wrapping, never the own address; with no other
mark there is none and the part is alone. The gap lies strictly between, and holds no mark (R66). A mark set or
cleared is that one mark (R65). -/
def Obligations.SuccessorAndGap : Prop :=
  (∀ r : Ring,
    (∀ t, r.successor = some t ↔ t ≠ r.ownAddress ∧ marked r.liveMap t = true ∧
      ∀ b, b ≠ r.ownAddress → marked r.liveMap b = true → (t - r.ownAddress).toNat ≤ (b - r.ownAddress).toNat) ∧
    (r.alone = true ↔ ∀ b, b ≠ r.ownAddress → marked r.liveMap b = false) ∧
    (r.alone = true ↔ r.successor = none) ∧
    (∀ b, r.inGap b = true ↔ b ≠ r.ownAddress ∧
      ∀ t, r.successor = some t → (b - r.ownAddress).toNat < (t - r.ownAddress).toNat) ∧
    (∀ b, r.inGap b = true → marked r.liveMap b = false) ∧
    ((∀ b, r.inGap b = false) ↔ r.successor = some (r.ownAddress + 1))) ∧
  ∀ (m : BitVec 32) (a b : Addr), marked (setMark m a) b = (decide (b = a) || marked m b) ∧
    marked (clearMark m a) b = (!decide (b = a) && marked m b)

/-- Every frame the line can carry is received as sent: the levels the transmitter shifts out, one a bit time (log
19), with the idle level after them, are reported as that valid frame, every field at every value, and no shorter run
of them is reported as anything (R27 to R33); a frame lasts 22 bt and 10 bt for each byte (R28). Its bytes are those of
Table 10-9, its check, high byte first, the remainder by x^16 + x^12 + x^5 + 1 from 0xFFFF, each byte's most
significant bit first (R31). A valid frame arrives as the row of its kind, an extension frame as a foreign frame and a
garbled one as a garbled frame (R30, R33, R34). Each failure of Table
2-4 is reported as a garbled frame at its point (R34): the opening pattern cut short, too long, or active where it is
idle; after any whole bytes of a frame, the idle level for a start bit or the active level for a stop bit; a length
above 16, a destination above 31, a count above 19; a wrong check; the closing pattern too short or too long. -/
def Obligations.FrameRoundTrip : Prop :=
  (frameCheck [] = 0xFFFF ∧
    (∀ (bytes : List Byte) (b : Byte), frameCheck (bytes ++ [b]) =
      [7, 6, 5, 4, 3, 2, 1, 0].foldl
        (fun (crc : Half) i => (crc <<< 1) ^^^ (if crc.getLsbD 15 = b.getLsbD i then 0x0000 else 0x1021))
        (frameCheck bytes)) ∧
    frameCheck [0x31, 0x32, 0x33, 0x34, 0x35, 0x36, 0x37, 0x38, 0x39] = 0x29B1) ∧
  (∀ (source destination : Addr) (key : Key) (payload : List Byte),
    let head (code : BitVec 3) : Byte := code ++ source
    let keyBytes : List Byte := [key.extractLsb' 16 8, key.extractLsb' 8 8, key.extractLsb' 0 8]
    let target : Byte := destination.setWidth 8
    (Frame.data source key payload).body = head 1 :: keyBytes ++ BitVec.ofNat 8 payload.length :: payload ∧
    (Frame.solicit source key).body = head 2 :: keyBytes ∧
    (Frame.token source destination).body = [head 3, target] ∧
    (Frame.invite source destination).body = [head 4, target] ∧
    (Frame.join source destination).body = [head 5, target] ∧
    (Frame.claim source).body = [head 6] ∧
    (Frame.extension false source payload).body = head 0 :: BitVec.ofNat 8 payload.length :: payload ∧
    (Frame.extension true source payload).body = head 7 :: BitVec.ofNat 8 payload.length :: payload ∧
    (Frame.data source key payload).arrival = .dataFrame source key payload ∧
    (Frame.solicit source key).arrival = .solicitFrame source key ∧
    (Frame.token source destination).arrival = .tokenFrame source target ∧
    (Frame.invite source destination).arrival = .inviteFrame source target ∧
    (Frame.join source destination).arrival = .joinFrame source target ∧
    (Frame.claim source).arrival = .claimFrame source ∧
    ∀ seven, (Frame.extension seven source payload).arrival = .foreignFrame) ∧
  (∀ f : Frame,
    f.bytes = f.body ++ [(frameCheck f.body).extractLsb' 8 8, (frameCheck f.body).extractLsb' 0 8] ∧
    f.levels = List.replicate 12 false ++ List.replicate 4 true ++ f.bytes.flatMap byteLevels ++ List.replicate 6 false ∧
    (Reception.valid f).arrival = some f.arrival) ∧
  (∀ b : Byte, byteLevels b = false :: (List.range 8).map (fun i => b.getLsbD i) ++ [true]) ∧
  (∀ (source : Addr) (code : BitVec 3), firstByte code source = code ++ source) ∧
  Reception.incomplete.arrival = none ∧ (∀ cause, (Reception.garbled cause).arrival = some .garbledFrame) ∧
  (∀ f : Frame, f.wf = true →
    receive (f.levels ++ [true]) = .valid f ∧ (∀ n ≤ f.levels.length, receive (f.levels.take n) = .incomplete) ∧
      f.duration = 22 + 10 * f.bytes.length ∧ f.levels.length = f.duration) ∧
  (∀ n, 1 ≤ n → n < 12 → garbledAt (List.replicate n false ++ [true]) .openingShort) ∧
  garbledAt (List.replicate 13 false) .openingLong ∧
  (∀ n, 1 ≤ n → n < 4 → garbledAt (List.replicate 12 false ++ List.replicate n true ++ [false]) .openingIdle) ∧
  let opening := List.replicate 12 false ++ List.replicate 4 true
  (∀ (f : Frame) (n : Nat), f.wf = true → n < f.bytes.length →
    let sent := opening ++ (f.bytes.take n).flatMap byteLevels
    garbledAt (sent ++ [true]) .idleMidFrame ∧
    ∀ b : Byte, garbledAt (sent ++ (byteLevels b).take 9 ++ [false]) .stopBit) ∧
  (∀ (source : Addr) (key : List Byte) (length : Byte), key.length = 3 → 16 < length.toNat →
    garbledAt (opening ++ (firstByte 1 source :: key ++ [length]).flatMap byteLevels) .longLength) ∧
  (∀ (source : Addr) (code : BitVec 3) (d : Byte), code = 3 ∨ code = 4 ∨ code = 5 → 31 < d.toNat →
    garbledAt (opening ++ [firstByte code source, d].flatMap byteLevels) .highDestination) ∧
  (∀ (source : Addr) (code : BitVec 3) (count : Byte), code = 0 ∨ code = 7 → 19 < count.toNat →
    garbledAt (opening ++ [firstByte code source, count].flatMap byteLevels) .highCount) ∧
  ∀ f : Frame, f.wf = true →
    (∀ b0 b1 : Byte, f.body ++ [b0, b1] ≠ f.bytes →
      garbledAt (opening ++ (f.body ++ [b0, b1]).flatMap byteLevels) .checkMismatch) ∧
    (∀ n, n < 6 → garbledAt (opening ++ f.bytes.flatMap byteLevels ++ List.replicate n false ++ [true]) .closingShort) ∧
    garbledAt (opening ++ f.bytes.flatMap byteLevels ++ List.replicate 7 false) .closingLong

/-! ### Invariants -/

/-- The part right after power-on reset satisfies every invariant of Safety.lean; its divider is 40, its receiver
stopped, its link OFF with an empty map, its engine STOPPED with nothing open, its phases 1, its notice list and queue
empty, and every register but IDENT reads 0. -/
def Obligations.ResetSatisfiesInvariants : Prop :=
  State.reset.Inv ∧ State.reset.progressOk ∧ State.reset.line.divider = 40 ∧ State.reset.line.receiver = .stopped ∧
    State.reset.ring.link = .off ∧ State.reset.ring.liveMap = 0 ∧ State.reset.ring.budget = 4 ∧
    State.reset.ring.inviteInterval = 16 ∧ State.reset.engine.state = .stopped ∧ State.reset.engine.phase = true ∧
    State.reset.engine.head = 0 ∧ State.reset.engine.openList = [] ∧ State.reset.events.phase = true ∧
    State.reset.events.tail = 0 ∧ State.reset.events.noticeList = [] ∧ State.reset.events.linkNotice = none ∧
    State.reset.sched.cursor = 0 ∧ State.reset.sched.holding = false ∧
    (∀ o, o ≠ 0 → State.reset.readRegister o .word = some 0) ∧ State.reset.readRegister 0 .word = some 0x5A570640 ∧
    State.reset.pending = []

/-- Every step keeps the slot table, the filing request, the claims waiting at the slot table and the notice list as
the manual says they stand (R1 to R5, R9, R44, R45, R57, R153). That the queue engine's claim stands exactly while a
checked command that does slot work is to be executed is the model's choice (logs 5 and 28). -/
def Obligations.StepKeepsSlotTable : Prop :=
  ∀ s t : State, s.Inv → step s = .next t → t.tableOk ∧ t.filingOk ∧ t.claimsOk ∧ t.noticesOk

/-- Every step keeps the queue engine and the event writer in order: engine state and fault code, one credit an entry,
at most 16 entries and 15 long ones, one take at a time, credits within the free entries, the write in flight that of
a done entry, and the two accesses of different numbers (R106, R108, R111, R115 to R119, R149, R158). The model's
choices are that a taking entry is immediate (log 6), that a checked record's entry stays in state taking and one left
by an engine reset has none (log 5), and the access numbers (log 7). -/
def Obligations.StepKeepsEngineAndEvents : Prop :=
  ∀ s t : State, s.Inv → step s = .next t →
    t.engine.stateOk ∧ t.engine.listOk ∧ t.engine.takeOk ∧ t.writeOk = true ∧ t.accessesOk ∧ t.creditsOk ∧ t.registersOk

/-- Every step keeps the link in order: the unheard count and WITHDRAWN, the awaited node, the timers of each link
state, one frame at a time, no frame of a part in a silent state, the holding's budget, every link change handed on
(R35, R39, R40, R64 to R68, R81 to R84, R90, R91, R102); and, but for a low RESET pulse shorter than 10 µs, which can
cut a frame short (log 11), a token or an answer is never waited for with nothing to end the wait. -/
def Obligations.StepKeepsLinkAndLine : Prop :=
  ∀ s t : State, s.Inv → step s = .next t →
    t.ring.nodeOk ∧ t.ring.timersOk ∧ t.ring.optionsOk ∧ t.lineOk ∧ t.sendingOk ∧
      (s.progressOk → (∀ n, n < 10 → s.pending.head? ≠ some (.powerOnReset (.pinLow n))) → t.progressOk)
end

