-- ==== Sys2Proof/Laws/Claims.lean ====
section
/-! SUPPORT. Turns at the slot table controller, the event writer's look for a notice, and start times: when each
holds and what each touches. -/

namespace Sys2Proof.Machine

theorem State.snapshotDue_iff (s : State) :
    s.snapshotDue = true ↔ s.waitKind = some .claimed ∧ s.transmitting = false := by
  simp [State.snapshotDue]

/-- It is a claim's turn when it is the oldest and no find-and-snapshot stands (R9). -/
theorem State.turn_iff (s : State) (c : Claim) :
    s.turn c = true ↔ s.claims.head? = some c ∧ s.snapshotDue = false := by
  simp [State.turn]

/-- When a slot notice's write may begin (R148). -/
theorem State.slotNoticeReady_iff (s : State) :
    s.slotNoticeReady = true ↔
      s.events.write = none ∧ s.events.noticeList ≠ [] ∧ s.noticeRoom = true ∧ s.completionReady = false ∧
        s.linkNoticeReady = false := by
  simp [State.slotNoticeReady, and_assoc]

/-- The event writer's look touches only the claims waiting at the slot table (R148). -/
theorem State.lookForNotice_eq (s : State) :
    s.lookForNotice = s.withClaims
      (if s.slotNoticeReady = true ∧ .notice ∉ s.claims then s.claims ++ [.notice] else s.claims) := by
  unfold State.lookForNotice
  by_cases h : s.slotNoticeReady = true ∧ .notice ∉ s.claims
  · rw [if_pos h, if_pos (by simpa using h)]; rfl
  · rw [if_neg h, if_neg (by simpa using h)]; rfl

/-- A waiting request's start time has come, and nothing keeps it from starting (R36, R37). -/
theorem State.startTimeCome_iff {s : State} {w : Waiting} (h : s.line.waiting = some w) :
    s.startTimeCome = true ↔
      w.gap * s.line.divider ≤ w.elapsed ∧ s.line.receiver ≠ .assembling ∧ s.transmitting = false := by
  simp [State.startTimeCome, h, Waiting.due, and_assoc]

/-- A timer expires when it runs and has counted to its limit (R39 to R41). -/
theorem Timer.expired_iff (limit : Nat) (t : Timer) : t.expired limit = true ↔ ∃ c, t = .running c ∧ limit ≤ c := by
  cases t <;> simp [Timer.expired]

end Sys2Proof.Machine
end

