-- ==== Sys2Proof/Laws/Exec.lean ====
section
/-! SUPPORT. Each row's dispatch, by definition: exec on a constructor is that row's meaning. -/

namespace Sys2Proof.Machine

@[simp] theorem exec_powerOnReset (cause : ResetCause) (s : State) : exec (.powerOnReset cause) s = execPowerOnReset cause s := rfl

@[simp] theorem exec_deviceReset (s : State) : exec .deviceReset s = execDeviceReset s := rfl

@[simp] theorem exec_engineReset (run : Bool) (s : State) : exec (.engineReset run) s = execEngineReset run s := rfl

@[simp] theorem exec_runSet (s : State) : exec .runSet s = execRunSet s := rfl

@[simp] theorem exec_runClear (s : State) : exec .runClear s = execRunClear s := rfl

@[simp] theorem exec_statusWrite (value : Word) (s : State) : exec (.statusWrite value) s = execStatusWrite value s := rfl

@[simp] theorem exec_ringGeometryWrite (reg : GeometryReg) (value : Word) (s : State) : exec (.ringGeometryWrite reg value) s = execRingGeometryWrite reg value s := rfl

@[simp] theorem exec_cmdTailWrite (value : Word) (s : State) : exec (.cmdTailWrite value) s = execCmdTailWrite value s := rfl

@[simp] theorem exec_evtHeadWrite (value : Word) (s : State) : exec (.evtHeadWrite value) s = execEvtHeadWrite value s := rfl

@[simp] theorem exec_notifyLevelWrite (value : Word) (s : State) : exec (.notifyLevelWrite value) s = execNotifyLevelWrite value s := rfl

@[simp] theorem exec_notifyQuietWrite (value : Word) (s : State) : exec (.notifyQuietWrite value) s = execNotifyQuietWrite value s := rfl

@[simp] theorem exec_registerWriteOther (offset : Nat) (width : AccessWidth) (s : State) : exec (.registerWriteOther offset width) s = execRegisterWriteOther offset width s := rfl

@[simp] theorem exec_takeBegin (s : State) : exec .takeBegin s = execTakeBegin s := rfl

@[simp] theorem exec_cqReadFail (access : Nat) (s : State) : exec (.cqReadFail access) s = execCqReadFail access s := rfl

@[simp] theorem exec_nop (s : State) : exec .nop s = execNop s := rfl

@[simp] theorem exec_store (s : State) : exec .store s = execStore s := rfl

@[simp] theorem exec_fetch (s : State) : exec .fetch s = execFetch s := rfl

@[simp] theorem exec_send (s : State) : exec .send s = execSend s := rfl

@[simp] theorem exec_cancel (s : State) : exec .cancel s = execCancel s := rfl

@[simp] theorem exec_tableClear (s : State) : exec .tableClear s = execTableClear s := rfl

@[simp] theorem exec_linkStart (s : State) : exec .linkStart s = execLinkStart s := rfl

@[simp] theorem exec_linkStop (s : State) : exec .linkStop s = execLinkStop s := rfl

@[simp] theorem exec_mapRead (part : MapPart) (s : State) : exec (.mapRead part) s = execMapRead part s := rfl

@[simp] theorem exec_barrier (s : State) : exec .barrier s = execBarrier s := rfl

@[simp] theorem exec_completionWrite (s : State) : exec .completionWrite s = execCompletionWrite s := rfl

@[simp] theorem exec_linkNoticeWrite (s : State) : exec .linkNoticeWrite s = execLinkNoticeWrite s := rfl

@[simp] theorem exec_readForNotice (s : State) : exec .readForNotice s = execReadForNotice s := rfl

@[simp] theorem exec_eventWriteDone (access : Nat) (s : State) : exec (.eventWriteDone access) s = execEventWriteDone access s := rfl

@[simp] theorem exec_eventWriteFail (access : Nat) (s : State) : exec (.eventWriteFail access) s = execEventWriteFail access s := rfl

@[simp] theorem exec_busResponseTimeout (access : BusAccess) (s : State) : exec (.busResponseTimeout access) s = execBusResponseTimeout access s := rfl

@[simp] theorem exec_quietTimerExpiry (s : State) : exec .quietTimerExpiry s = execQuietTimerExpiry s := rfl

@[simp] theorem exec_activityStart (n : Nat) (s : State) : exec (.activityStart n) s = execActivityStart n s := rfl

@[simp] theorem exec_dataFrame (source : Addr) (key : Key) (payload : List Byte) (s : State) : exec (.dataFrame source key payload) s = execDataFrame source key payload s := rfl

@[simp] theorem exec_solicitFrame (source : Addr) (key : Key) (s : State) : exec (.solicitFrame source key) s = execSolicitFrame source key s := rfl

@[simp] theorem exec_tokenFrame (source : Addr) (destination : Byte) (s : State) : exec (.tokenFrame source destination) s = execTokenFrame source destination s := rfl

@[simp] theorem exec_inviteFrame (source : Addr) (destination : Byte) (s : State) : exec (.inviteFrame source destination) s = execInviteFrame source destination s := rfl

@[simp] theorem exec_joinFrame (source : Addr) (destination : Byte) (s : State) : exec (.joinFrame source destination) s = execJoinFrame source destination s := rfl

@[simp] theorem exec_claimFrame (source : Addr) (s : State) : exec (.claimFrame source) s = execClaimFrame source s := rfl

@[simp] theorem exec_foreignFrame (s : State) : exec .foreignFrame s = execForeignFrame s := rfl

@[simp] theorem exec_garbledFrame (s : State) : exec .garbledFrame s = execGarbledFrame s := rfl

@[simp] theorem exec_fileData (s : State) : exec .fileData s = execFileData s := rfl

@[simp] theorem exec_fileSolicit (s : State) : exec .fileSolicit s = execFileSolicit s := rfl

@[simp] theorem exec_silenceTimeout (s : State) : exec .silenceTimeout s = execSilenceTimeout s := rfl

@[simp] theorem exec_responseWindowExpiry (s : State) : exec .responseWindowExpiry s = execResponseWindowExpiry s := rfl

@[simp] theorem exec_lonePauseEnd (s : State) : exec .lonePauseEnd s = execLonePauseEnd s := rfl

@[simp] theorem exec_sendOpportunity (s : State) : exec .sendOpportunity s = execSendOpportunity s := rfl

@[simp] theorem exec_findAndSnapshot (s : State) : exec .findAndSnapshot s = execFindAndSnapshot s := rfl

@[simp] theorem exec_ringFrameStart (s : State) : exec .ringFrameStart s = execRingFrameStart s := rfl

@[simp] theorem exec_frameEnd (s : State) : exec .frameEnd s = execFrameEnd s := rfl

@[simp] theorem exec_ringFrameEnd (s : State) : exec .ringFrameEnd s = execRingFrameEnd s := rfl

@[simp] theorem exec_takeEnd (access : Nat) (record : List Byte) (s : State) :
    exec (.takeEnd access record) s = execTakeEnd access record s := rfl

@[simp] theorem exec_leaveReset (s : State) : exec .leaveReset s = execLeaveReset s := rfl

end Sys2Proof.Machine
end

