-- ==== Sys2Proof/Laws/HostPort.lean ====
section
/-! SUPPORT. The host port and the rings: what a register write does, when the checks of a run pass, and distances
along a ring. -/

namespace Sys2Proof.Machine

/-- A register write takes its effect while RESET is high (R168). -/
theorem State.hostAccess_high {s t : State} (h : s.resetLow = false) : s.hostAccess t = .next t := by
  simp [State.hostAccess, h]

/-- A register write changes nothing while RESET is low (R168). -/
theorem State.hostAccess_low {s t : State} (h : s.resetLow = true) : s.hostAccess t = .next s := by
  simp [State.hostAccess, h]

/-- The ring settings pass all six checks (R109). -/
theorem State.runCheck_eq_none (s : State) : s.runCheck = none ↔
    s.regs.cmdBaseLo.toNat % 64 = 0 ∧ s.regs.cmdSizeValid = true
      ∧ (s.regs.cmdTail < s.regs.cmdRingSize ∧ s.engine.head < s.regs.cmdRingSize)
      ∧ s.regs.evtBaseLo.toNat % 32 = 0 ∧ s.regs.evtSizeValid = true
      ∧ (s.regs.evtHead < s.regs.evtRingSize ∧ s.events.tail < s.regs.evtRingSize) := by
  unfold State.runCheck
  repeat' split
  all_goals simp_all
  all_goals omega

theorem ringDistance_lt {n a b : Nat} (hn : 0 < n) : ringDistance n a b < n := Nat.mod_lt _ hn

theorem ringNext_lt {n i : Nat} (h : i < n) : ringNext n i < n := by
  unfold ringNext; split <;> omega

/-- The distance between two indices of a ring (R107, R146). -/
theorem ringDistance_eq {n a b : Nat} (ha : a < n) (hb : b < n) :
    ringDistance n a b = if a ≤ b then b - a else b + n - a := by
  unfold ringDistance
  rw [Nat.mod_eq_of_lt ha]
  split
  · rw [show b + n - a = (b - a) + n by omega, Nat.add_mod_right, Nat.mod_eq_of_lt (by omega)]
  · rw [Nat.mod_eq_of_lt (by omega)]

/-- An index that moves on, with room before it, is one further (R112, R149). -/
theorem ringDistance_ringNext {n a b : Nat} (ha : a < n) (hb : b < n) (hd : ringDistance n a b < n - 1) :
    ringDistance n a (ringNext n b) = ringDistance n a b + 1 := by
  have h2 := ringNext_lt hb
  rw [ringDistance_eq ha hb] at *
  rw [ringDistance_eq ha h2]
  unfold ringNext at *
  split at hd <;> split <;> split <;> simp_all <;> omega

end Sys2Proof.Machine
end

