-- ==== Sys2Proof/Laws/Records.lean ====
section
/-! SUPPORT. What stands in each field of a command record the host writes, and what a record that passes the checks
holds. -/

namespace Sys2Proof.Machine

/-- A halfword is its two bytes. -/
theorem highByte_append_lowByte (h : Half) : highByte h ++ lowByte h = h := by
  unfold highByte lowByte
  rw [BitVec.extractLsb'_append_extractLsb'_eq_extractLsb' (by rfl)]
  simp

/-- A key is its three bytes. -/
theorem key_of_bytes (k : Key) : k.extractLsb' 16 8 ++ k.extractLsb' 8 8 ++ k.extractLsb' 0 8 = k := by
  rw [BitVec.extractLsb'_append_extractLsb'_eq_extractLsb' (by rfl),
    BitVec.extractLsb'_append_extractLsb'_eq_extractLsb' (by rfl)]
  simp

theorem Command.operandBytes_length (c : Command) : c.operandBytes.length = 48 := by
  cases c <;> simp [Command.operandBytes, StoreOperands.bytes, LinkOptions.bytes, keyBytes]

theorem Command.bytesWith_length (c : Command) (p : Bool) (t k : Half) : (c.bytesWith p t k).length = 64 := by
  simp [Command.bytesWith, Command.operandBytes_length]

/-- Halfword 1 is the check word (Table 10-2). -/
theorem Command.bytesWith_check (c : Command) (p : Bool) (t k : Half) : recHalf (c.bytesWith p t k) 1 = k :=
  highByte_append_lowByte k

/-- Halfword 2 is the tag (Table 10-2). -/
theorem Command.bytesWith_tag (c : Command) (p : Bool) (t k : Half) : recHalf (c.bytesWith p t k) 2 = t :=
  highByte_append_lowByte t

/-- Halfword 3 is the options halfword (Table 10-2). -/
theorem Command.bytesWith_options (c : Command) (p : Bool) (t k : Half) :
    recHalf (c.bytesWith p t k) 3 = c.options :=
  highByte_append_lowByte _

/-- Byte 1 is the phase (Table 10-2). -/
theorem Command.bytesWith_phase (c : Command) (p : Bool) (t k : Half) :
    recByte (c.bytesWith p t k) 1 = BitVec.ofNat 8 p.toNat := rfl

/-- Byte 8 is the slot number (Table 10-2). -/
theorem Command.bytesWith_slot (c : Command) (p : Bool) (t k : Half) :
    recByte (c.bytesWith p t k) 8 = BitVec.ofNat 8 ((c.slot.map Fin.val).getD 0) := rfl

/-- Bytes 16 to 63 are the operands (Tables 10-3 and 10-4). -/
theorem Command.bytesWith_operands (c : Command) (p : Bool) (t k : Half) (i : Nat) :
    recByte (c.bytesWith p t k) (16 + i) = recByte c.operandBytes i := by
  unfold recByte Command.bytesWith
  simp only [List.cons_append, List.getD_eq_getElem?_getD, List.replicate, show 16 + i = i + 16 by omega,
    List.getElem?_cons_succ, List.nil_append]

/-- The check word does not cover itself (R114). -/
theorem checkWordOf_bytesWith (c : Command) (p : Bool) (t k k' : Half) :
    checkWordOf (c.bytesWith p t k) = checkWordOf (c.bytesWith p t k') := by
  unfold checkWordOf
  congr 2

/-- A record the host writes has the correct check word (R114). -/
theorem Command.record_checkCorrect (c : Command) (p : Bool) (t : Half) : checkCorrect (c.record p t) = true := by
  unfold checkCorrect Command.record
  rw [decide_eq_true_eq, Command.bytesWith_check]
  exact checkWordOf_bytesWith _ _ _ _ _

theorem commandCode_byte_eq (c : CommandCode) : commandCode c.byte = some c := by
  cases c <;> decide

/-- A known command code is that of its byte (Table 7-1). -/
theorem commandCode_byte {b : Byte} {c : CommandCode} (h : commandCode b = some c) : c.byte = b := by
  have := List.find?_some h
  simpa using this

/-- Operands refused on a condition, when they are not refused. -/
theorem ite_none_ne_none {α : Type} {c : Prop} [Decidable c] {v : α} (h : (if c then none else some v) ≠ none) :
    (if c then none else some v) = some v := by
  by_cases hc : c
  · exact absurd (if_pos hc) h
  · exact if_neg hc

/-- The SETUP operands, where they are in range, stand at their places in Table 10-3. -/
theorem readSetup_ne_none {r : List Byte} (h : readSetup r ≠ none) : readSetup r = some
    { inService := (recByte r 16).getLsbD 0, maskInUse := (recByte r 16).getLsbD 1
      depotEnd := (recByte r 16).getLsbD 2, role := if recByte r 17 = 1 then .publish else .subscribe
      key := recKey r 20, mask := recKey r 24 } :=
  ite_none_ne_none h

/-- The BEHAVIOUR operands, where they are in range, stand at their places in Table 10-3. -/
theorem readBehaviour_ne_none {r : List Byte} (h : readBehaviour r ≠ none) : readBehaviour r = some
    { answer := (recByte r 18).getLsbD 0, notify := (recByte r 18).getLsbD 1
      keepFirst := (recByte r 18).getLsbD 2 } :=
  ite_none_ne_none h

/-- The CONTENT operands, where they are in range, stand at their places in Table 10-3. -/
theorem readContent_ne_none {r : List Byte} (h : readContent r ≠ none) : readContent r = some
    { length := (recByte r 19).toNat, bytes := (List.range 16).map fun i => recByte r (32 + i) } :=
  ite_none_ne_none h

/-- The LINK_START operands, where they are in range, stand at their places in Table 10-4. -/
theorem readLinkStart_ne_none {r : List Byte} (h : readLinkStart r ≠ none) : readLinkStart r = some
    { ownAddress := BitVec.ofNat 5 (recByte r 16).toNat, divider := (recHalf r 9).toNat
      budget := (recByte r 20).toNat, inviteInterval := (recByte r 21).toNat
      listenOnly := (recOptions r).getLsbD 0, selfFiling := (recOptions r).getLsbD 1 } :=
  ite_none_ne_none h

/-- A selected group with defined values gives them; one not selected is absent (R129). -/
theorem whenSelected_eq {α : Type} {b : Bool} {g : Option α} {v : α} {x : Option α} (hg : g ≠ none → g = some v)
    (h : whenSelected b g = some x) : x = if b then some v else none := by
  cases b with
  | false => exact (Option.some.inj h).symm
  | true =>
    cases g with
    | none => exact nomatch h
    | some a => exact (Option.some.inj h).symm.trans (hg nofun)

/-- The operands of a STORE whose selected groups are in range stand at their places in Table 10-3. -/
theorem readStore_ne_none {r : List Byte} (h : readStore r ≠ none) : readStore r = some
    { slot := recSlot r
      setup := if (recOptions r).getLsbD 0 then some
          { inService := (recByte r 16).getLsbD 0, maskInUse := (recByte r 16).getLsbD 1
            depotEnd := (recByte r 16).getLsbD 2, role := if recByte r 17 = 1 then .publish else .subscribe
            key := recKey r 20, mask := recKey r 24 }
        else none
      behaviour := if (recOptions r).getLsbD 1 then some
          { answer := (recByte r 18).getLsbD 0, notify := (recByte r 18).getLsbD 1
            keepFirst := (recByte r 18).getLsbD 2 }
        else none
      content := if (recOptions r).getLsbD 2 then some
          { length := (recByte r 19).toNat, bytes := (List.range 16).map fun i => recByte r (32 + i) }
        else none
      clearStatus := (recOptions r).getLsbD 3, sendAfter := (recOptions r).getLsbD 4 } := by
  unfold readStore at h ⊢
  dsimp only at h ⊢
  split at h
  · next s b c hs hb hc =>
    rw [whenSelected_eq readSetup_ne_none hs, whenSelected_eq readBehaviour_ne_none hb,
      whenSelected_eq readContent_ne_none hc]
  · exact absurd rfl h

/-- Operands that are read are in their ranges, and of the command asked for (R129, R139). -/
theorem readOperands_wf {c : CommandCode} {r : List Byte} {x : Command} (h : readOperands c r = some x) :
    x.wf = true ∧ x.code = c := by
  cases c <;> simp [readOperands] at h <;> try (subst h; simp [Command.wf, Command.code])
  · obtain ⟨o, ho, rfl⟩ := h
    refine ⟨?_, rfl⟩
    unfold readStore at ho
    simp only at ho
    split at ho
    · next h1 h2 h3 =>
      simp at ho
      subst ho
      unfold whenSelected at h3
      simp [Command.wf]
      split at h3
      · unfold readContent at h3
        simp only at h3
        split at h3
        · simp at h3
        · simp at h3
          obtain h3 := h3
          subst h3
          simp; omega
      · simp at h3
        subst h3; rfl
    · simp at ho
  · obtain ⟨o, ho, rfl⟩ := h
    refine ⟨?_, rfl⟩
    unfold readLinkStart at ho
    simp only at ho
    split at ho
    · simp at ho
    · simp at ho
      subst ho
      simp [Command.wf]
      have := (recByte r 21).isLt
      omega

/-- A record that passes the checks gives a command it can hold, with its own code (R113). -/
theorem checkRecord_ok {p : Bool} {r : List Byte} {c : Command} (h : checkRecord p r = .ok c) :
    c.wf = true ∧ recByte r 0 = c.code.byte := by
  unfold checkRecord at h
  repeat' split at h
  all_goals simp at h
  subst h
  rename_i h1 _ _ _ _ h2
  have a := readOperands_wf h2
  rw [a.2, commandCode_byte h1]
  exact ⟨a.1, rfl⟩

end Sys2Proof.Machine
end

