-- ==== Sys2Proof/Laws/Line.lean ====
section
/-! SUPPORT. What the receiver makes of the levels of bytes, and that what it has reported does not depend on the levels
that come after. -/

namespace Sys2Proof.Machine

theorem byteOfBits_eq (b : Byte) :
    byteOfBits (b.getLsbD 0) (b.getLsbD 1) (b.getLsbD 2) (b.getLsbD 3) (b.getLsbD 4) (b.getLsbD 5) (b.getLsbD 6)
      (b.getLsbD 7) = b := by
  revert b; decide

/-- A byte's ten levels are taken as that byte (R27). -/
theorem takeByte_levels (b : Byte) (r : List Bool) : takeByte (byteLevels b ++ r) = .taken b r := by
  simp only [byteLevels, List.cons_append, List.nil_append, takeByte, if_true]
  rw [byteOfBits_eq]

/-- The levels of bytes one after another are taken as those bytes (R27). -/
theorem takeBytes_levels (bs : List Byte) (r : List Bool) :
    takeBytes bs.length (bs.flatMap byteLevels ++ r) = .taken bs r := by
  induction bs with
  | nil => rfl
  | cons b bs ih =>
    simp only [List.flatMap_cons, List.append_assoc, List.length_cons, takeBytes, takeByte_levels, ih]

/-- A correct check is followed by the closing pattern (R31). -/
theorem takeEndOfFrame_levels (f : Frame) (body : List Byte) (r : List Bool) :
    takeEndOfFrame f body ([highByte (frameCheck body), lowByte (frameCheck body)].flatMap byteLevels ++ r)
      = takeClosing f 6 r := by
  unfold takeEndOfFrame
  have := takeBytes_levels [highByte (frameCheck body), lowByte (frameCheck body)] r
  rw [show ([highByte (frameCheck body), lowByte (frameCheck body)] : List Byte).length = 2 from rfl] at this
  rw [this]; simp

theorem keyOfLine_lineKey (k : Key) : keyOfLine (lineKey k) = k := key_of_bytes k

/-- The kind code and the source of a first byte (R29). -/
theorem firstByte_fields (c : BitVec 3) (a : Addr) :
    (firstByte c a).setWidth 5 = a ∧ (firstByte c a).toNat / 32 = c.toNat := by
  revert c a; decide

theorem destination_byte (d : Addr) : (d.setWidth 8 : Byte).setWidth 5 = d ∧ ¬ 31 < (d.setWidth 8 : Byte).toNat := by
  revert d; decide

/-- A byte taken, or found wrong, stays so whatever levels follow. -/
theorem takeByte_append (l m : List Bool) :
    (∀ b r, takeByte l = .taken b r → takeByte (l ++ m) = .taken b (r ++ m)) ∧
      ∀ c, takeByte l = .failed c → takeByte (l ++ m) = .failed c := by
  match l with
  | [] => exact ⟨fun _ _ h => (nomatch h), fun _ h => nomatch h⟩
  | true :: l => exact ⟨fun _ _ h => (nomatch h), fun c h => h⟩
  | false :: b0 :: b1 :: b2 :: b3 :: b4 :: b5 :: b6 :: b7 :: st :: r =>
    cases st
    · exact ⟨fun _ _ h => (nomatch h), fun c h => h⟩
    · exact ⟨fun b q h => by cases h; rfl, fun c h => nomatch h⟩
  | [false] => exact ⟨fun _ _ h => (nomatch h), fun _ h => nomatch h⟩
  | [false, _] => exact ⟨fun _ _ h => (nomatch h), fun _ h => nomatch h⟩
  | [false, _, _] => exact ⟨fun _ _ h => (nomatch h), fun _ h => nomatch h⟩
  | [false, _, _, _] => exact ⟨fun _ _ h => (nomatch h), fun _ h => nomatch h⟩
  | [false, _, _, _, _] => exact ⟨fun _ _ h => (nomatch h), fun _ h => nomatch h⟩
  | [false, _, _, _, _, _] => exact ⟨fun _ _ h => (nomatch h), fun _ h => nomatch h⟩
  | [false, _, _, _, _, _, _] => exact ⟨fun _ _ h => (nomatch h), fun _ h => nomatch h⟩
  | [false, _, _, _, _, _, _, _] => exact ⟨fun _ _ h => (nomatch h), fun _ h => nomatch h⟩
  | [false, _, _, _, _, _, _, _, _] => exact ⟨fun _ _ h => (nomatch h), fun _ h => nomatch h⟩

/-- Bytes taken, or found wrong, stay so whatever levels follow. -/
theorem takeBytes_append (n : Nat) (l m : List Bool) :
    (∀ b r, takeBytes n l = .taken b r → takeBytes n (l ++ m) = .taken b (r ++ m)) ∧
      ∀ c, takeBytes n l = .failed c → takeBytes n (l ++ m) = .failed c := by
  induction n generalizing l with
  | zero => simp [takeBytes]
  | succ n ih =>
    unfold takeBytes
    cases h : takeByte l with
    | incomplete => simp
    | failed c => rw [(takeByte_append l m).2 c h]; simp
    | taken b r =>
      rw [(takeByte_append l m).1 b r h]
      simp only
      cases h2 : takeBytes n r with
      | incomplete => simp
      | failed c => rw [(ih r).2 c h2]; simp
      | taken bs r' => rw [(ih r).1 bs r' h2]; simp

/-- A closing pattern's outcome stays so whatever levels follow. -/
theorem takeClosing_append (f : Frame) (n : Nat) (l m : List Bool) (h : takeClosing f n l ≠ .incomplete) :
    takeClosing f n (l ++ m) = takeClosing f n l := by
  induction l generalizing n with
  | nil => cases n <;> exact absurd rfl h
  | cons b l ih =>
    cases n with
    | zero => rfl
    | succ n =>
      cases b
      · exact ih n h
      · rfl

theorem flatMap_byteLevels_length (bs : List Byte) : (bs.flatMap byteLevels).length = 10 * bs.length := by
  induction bs with
  | nil => rfl
  | cons b bs ih => simp [ih, byteLevels]; omega

end Sys2Proof.Machine
end

