-- ==== Sys2Proof/Laws/LiveMap.lean ====
section
/-! SUPPORT. What the live map's operations do to each mark, and which address the successor is. -/

namespace Sys2Proof.Machine

/-- Setting a mark sets that one (R65). -/
theorem marked_setMark (m : BitVec 32) (a b : Addr) : marked (setMark m a) b = (marked m b || decide (a = b)) := by
  have ha := a.isLt
  have hb := b.isLt
  by_cases h : a = b
  · subst h
    simp [marked, setMark, BitVec.getLsbD_shiftLeft]
    right; omega
  · have : a.toNat ≠ b.toNat := fun h' => h (BitVec.eq_of_toNat_eq h')
    simp [marked, setMark, BitVec.getLsbD_shiftLeft, h]
    intro _ _; omega

/-- Clearing a mark clears that one (R80). -/
theorem marked_clearMark (m : BitVec 32) (a b : Addr) : marked (clearMark m a) b = (marked m b && decide (a ≠ b)) := by
  have ha := a.isLt
  have hb := b.isLt
  by_cases h : a = b
  · subst h
    simp [marked, clearMark, BitVec.getLsbD_shiftLeft]
  · have : a.toNat ≠ b.toNat := fun h' => h (BitVec.eq_of_toNat_eq h')
    simp [marked, clearMark, BitVec.getLsbD_shiftLeft, h]
    intro _; omega

theorem mem_addressesAfter (own a : Addr) : a ∈ addressesAfter own ↔ a ≠ own := by
  revert own a; decide

theorem successorOf_ne_own {own a : Addr} {m : BitVec 32} (h : successorOf own m = some a) : a ≠ own :=
  (mem_addressesAfter own a).1 (List.mem_of_find?_eq_some h)

theorem successorOf_marked {own a : Addr} {m : BitVec 32} (h : successorOf own m = some a) : marked m a = true :=
  List.find?_some h

theorem successorOf_isSome {own : Addr} {m : BitVec 32} :
    (successorOf own m).isSome = true ↔ ∃ a, a ≠ own ∧ marked m a = true := by
  simp [successorOf, List.find?_isSome, mem_addressesAfter]

/-- The i-th address after the own one lies i + 1 above it. -/
theorem addressesAfter_distance (own : Addr) (i : Nat) (h : i < (addressesAfter own).length) :
    ((addressesAfter own)[i] - own).toNat = i + 1 := by
  have h31 : i < 31 := by simpa [addressesAfter] using h
  simp only [addressesAfter, List.getElem_map, List.getElem_range]
  rw [BitVec.add_comm, BitVec.add_sub_cancel]
  simp; omega

/-- The successor lies no further above the own address than any other marked address (R66). -/
theorem successorOf_nearest {own t : Addr} {m : BitVec 32} (h : successorOf own m = some t) (b : Addr) (hb : b ≠ own)
    (hm : marked m b = true) : (t - own).toNat ≤ (b - own).toNat := by
  obtain ⟨j, hj, hjb⟩ := List.mem_iff_getElem.1 ((mem_addressesAfter own b).2 hb)
  unfold successorOf at h
  rw [List.find?_eq_some_iff_getElem] at h
  obtain ⟨_, i, hi, hit, hbefore⟩ := h
  rw [← hit, ← hjb, addressesAfter_distance own i hi, addressesAfter_distance own j hj]
  by_contra hlt
  have := hbefore j (by omega)
  rw [hjb, hm] at this
  simp at this

/-- Two addresses as far above a third are one. -/
theorem distance_injective (own a b : Addr) (h : (a - own).toNat = (b - own).toNat) : a = b := by
  have h2 : a - own + own = b - own + own := by rw [BitVec.eq_of_toNat_eq h]
  simpa using h2

theorem distance_eq_zero (own a : Addr) : (a - own).toNat = 0 ↔ a = own := by
  revert own a; decide

end Sys2Proof.Machine
end

