-- ==== Sys2Proof/Laws/OpenList.lean ====
section
/-! SUPPORT. What the execution steps and the reports do to the open command list, in the statements' names. -/

namespace Sys2Proof.Machine

theorem finishTaking_eq_settle (k : EntryKind) (c : Completion) (l : List Entry) :
    finishTaking k c l = settle k (.done c) l := by
  unfold finishTaking settle
  congr 1; funext e; simp [Entry.isTaking]

theorem startWaiting_eq_settle (l : List Entry) : startWaiting l = settle .long .waiting l := by
  unfold startWaiting settle
  congr 1; funext e; simp [Entry.isTaking]

theorem finishWaits_eq (c : CommandCode) (st : Status) (l : List Entry) :
    finishWhere (·.waitsAs c) st l = endWaits c st l := by
  unfold finishWhere endWaits
  congr 1; funext e; simp [Entry.waitsAs, Entry.finish]

theorem finishSends_eq (k : SlotId) (st : Status) (l : List Entry) :
    finishWhere (·.waitsOn k) st l = endSends k st l := by
  unfold finishWhere endSends
  congr 1; funext e; simp [Entry.waitsOn, Entry.waitsAs, Entry.finish, and_assoc]

/-- What the end of an execution step does (R116, R125). -/
theorem State.finishCommand_eq (s : State) (k : EntryKind) (c : Completion) :
    s.finishCommand k c =
      { s with
        engine.openList := settle k (.done c) s.engine.openList, engine.checked := none
        engine.mapReads := MapReads.empty, claims := s.claims.erase .command } := by
  unfold State.finishCommand
  rw [finishTaking_eq_settle]; rfl

/-- What the end of an execution step with a bare status does. -/
theorem State.finishStatus_eq (s : State) (st : Status) :
    s.finishStatus st =
      { s with
        engine.openList := settle .immediate (doneWith st) s.engine.openList, engine.checked := none
        engine.mapReads := MapReads.empty, claims := s.claims.erase .command } :=
  State.finishCommand_eq s _ _

/-- What the start of a long wait does (R116). -/
theorem State.waitCommand_eq (s : State) :
    s.waitCommand =
      { s with
        engine.openList := settle .long .waiting s.engine.openList, engine.checked := none
        engine.mapReads := MapReads.empty, claims := s.claims.erase .command } := by
  unfold State.waitCommand
  rw [startWaiting_eq_settle]; rfl

theorem State.longFull_iff (s : State) :
    s.longFull = true ↔ 15 ≤ s.engine.openList.countP fun e => decide (e.kind = .long) := by
  unfold State.longFull
  rw [decide_eq_true_iff]; rfl

theorem State.linkDown_iff (s : State) : s.linkDown = true ↔ s.ring.link = .off ∨ s.ring.link = .withdrawn := by
  simp [State.linkDown, LinkState.runsTimers]

theorem releaseBarrier_length (l : List Entry) : (releaseBarrier l).length = l.length := by
  cases l <;> simp [releaseBarrier]

theorem longCount_append (p q : List Entry) : longCount (p ++ q) = longCount p + longCount q := by simp [longCount]

/-- An entry that waits is waiting. -/
theorem Entry.waitsAs_waiting {e : Entry} {c : CommandCode} (h : e.waitsAs c = true) : e.state = .waiting := by
  simp [Entry.waitsAs] at h; exact h.1

/-- A confirm-SEND that waits on a slot is waiting. -/
theorem Entry.waitsOn_waiting {e : Entry} {k : SlotId} (h : e.waitsOn k = true) : e.state = .waiting := by
  simp [Entry.waitsOn, Entry.waitsAs] at h; exact h.1.1

end Sys2Proof.Machine
end

