-- ==== Sys2Proof/Laws/Own.lean ====
section
/-! SUPPORT. When a row of the part's own is due, as its meaning tests it, and what a step on an empty queue then
does. -/

namespace Sys2Proof.Machine

/-! ### Each own row's condition is the one its meaning tests -/

theorem State.noticeInFlight_iff (s : State) :
    s.noticeInFlight = false ↔ ∀ w, s.events.write = some w → w.source ≠ .notice := by
  unfold State.noticeInFlight
  cases s.events.write <;> simp

theorem State.rowDue_takeBegin (s : State) : s.rowDue .takeBegin ↔ s.canTake = true := by
  delta State.rowDue
  simp only [State.canTake, ← State.noticeInFlight_iff, Bool.and_eq_true, decide_eq_true_eq,
    Option.isNone_iff_eq_none, Bool.not_eq_true', and_assoc]
  rfl

theorem State.completionReady_iff (s : State) :
    s.completionReady = true ↔ (∃ e ∈ s.engine.openList, e.completion ≠ none) ∧ s.engine.state ≠ .faulted := by
  simp [State.completionReady, oldestDone, List.findIdx?_isSome, Option.isSome_iff_ne_none]

theorem State.completionReady_false_iff (s : State) :
    s.completionReady = false ↔ (∀ e ∈ s.engine.openList, e.completion = none) ∨ s.engine.state = .faulted := by
  rw [← Bool.not_eq_true, State.completionReady_iff]
  by_cases h : s.engine.state = .faulted <;> simp [h]

theorem State.noticeRoom_iff (s : State) :
    s.noticeRoom = true ↔ s.engine.state = .running ∧ s.engine.credits < s.freeEntries := by
  simp [State.noticeRoom]

theorem State.rowDue_completionWrite (s : State) : s.rowDue .completionWrite ↔ s.completionDue = true := by
  delta State.rowDue
  simp only [State.completionDue, Bool.and_eq_true, State.completionReady_iff, Option.isNone_iff_eq_none,
    Bool.not_eq_true', and_assoc]
  tauto

theorem State.rowDue_linkNoticeWrite (s : State) : s.rowDue .linkNoticeWrite ↔ s.linkNoticeDue = true := by
  delta State.rowDue
  simp only [State.linkNoticeDue, State.linkNoticeReady, Bool.and_eq_true, Bool.not_eq_true',
    State.completionReady_false_iff, State.noticeRoom_iff, Option.isNone_iff_eq_none, Option.isSome_iff_ne_none]
  constructor
  · rintro ⟨a, b, c, d, e, f⟩; exact ⟨⟨⟨a, b, c, d⟩, .inl e⟩, f⟩
  · rintro ⟨⟨⟨a, b, c, d⟩, e | e⟩, f⟩
    · exact ⟨a, b, c, d, e, f⟩
    · rw [c] at e; exact nomatch e

theorem State.rowDue_readForNotice (s : State) : s.rowDue .readForNotice ↔ s.noticeDue = true := by
  delta State.rowDue
  simp [State.noticeDue]

theorem State.rowDue_busResponseTimeout (s : State) (a : BusAccess) :
    s.rowDue (.busResponseTimeout a) ↔ s.timeoutDue a = true := by
  cases a <;> delta State.rowDue <;> simp only [State.timeoutDue, Option.any_eq_true, decide_eq_true_eq] <;> rfl

theorem State.rowDue_silenceTimeout (s : State) : s.rowDue .silenceTimeout ↔ s.silenceDue = true := by
  delta State.rowDue
  simp [State.silenceDue, Timer.expired_iff, Config.silenceTimeout]

theorem State.rowDue_responseWindowExpiry (s : State) : s.rowDue .responseWindowExpiry ↔ s.windowDue = true := by
  delta State.rowDue
  simp [State.windowDue, Timer.expired_iff, Config.responseWindow]

theorem State.rowDue_lonePauseEnd (s : State) : s.rowDue .lonePauseEnd ↔ s.pauseDue = true := by
  delta State.rowDue
  simp [State.pauseDue, Timer.expired_iff, Config.lonePause]

theorem State.rowDue_sendOpportunity (s : State) : s.rowDue .sendOpportunity ↔ s.opportunityDue = true := by
  delta State.rowDue
  simp only [State.opportunityDue, Bool.and_eq_true, decide_eq_true_eq]
  simp only [State.waitKind, State.startsNow]
  cases h : s.line.waiting with
  | none => simp
  | some w =>
    simp [State.startTimeCome_iff h, and_assoc]

theorem State.rowDue_findAndSnapshot (s : State) : s.rowDue .findAndSnapshot ↔ s.snapshotDue = true := by
  delta State.rowDue
  simp [State.snapshotDue]

theorem State.rowDue_ringFrameStart (s : State) : s.rowDue .ringFrameStart ↔ s.ringStartDue = true := by
  delta State.rowDue
  simp only [State.ringStartDue, State.waitKind, State.startsNow]
  cases h : s.line.waiting with
  | none => simp
  | some w =>
    simp only [Option.some.injEq, exists_eq_left', ← State.startTimeCome_iff h, Option.map_some, Option.any_some,
      Bool.and_eq_true]
    cases hk : w.kind <;> simp [WaitKind.isRingFrame, Option.isSome_iff_ne_none, and_comm]

theorem State.frameDone_iff (s : State) : s.frameDone = true ↔ s.sentToEnd := by
  unfold State.frameDone State.sentToEnd
  cases s.frameInFlight <;> simp

theorem State.rowDue_frameEnd (s : State) : s.rowDue .frameEnd ↔ s.frameEndDue = true := by
  delta State.rowDue
  simp only [State.frameEndDue, ← State.frameDone_iff, Bool.and_eq_true, Option.isSome_iff_ne_none,
    Bool.not_eq_true', Bool.and_eq_false_iff]
  cases s.ring.selfFiling <;> simp [and_assoc]

theorem State.rowDue_ringFrameEnd (s : State) : s.rowDue .ringFrameEnd ↔ s.ringFrameEndDue = true := by
  delta State.rowDue
  simp [State.ringFrameEndDue, ← State.frameDone_iff, Option.isSome_iff_ne_none]

/-- The row of the checked command is due when its execution step may be made (R9, R111). -/
theorem State.rowDue_command {s : State} {c : Command} (h : s.engine.checked = some c) :
    s.rowDue c.row ↔ s.commandDue c = true := by
  cases c <;> delta State.rowDue <;> simp [Command.row, h, State.commandDue, Command.usesTable, State.refusedFull]
  case send k b =>
    have e : s.longFull = true ↔ 15 ≤ s.engine.openList.countP fun e => e.kind = .long := by
      simp only [State.longFull, decide_eq_true_eq]; rfl
    rw [e]
    cases b <;> simp

/-- The row of the request that waits is due at its turn (R9, R45). -/
theorem State.rowDue_filing {s : State} {r : FilingRequest} (h : s.filing = some r) :
    s.rowDue r.row ↔ s.turn .filing = true := by
  cases r <;> delta State.rowDue <;> simp [FilingRequest.row, h]

/-! ### The row the part takes of itself -/

theorem rowWhen_some {d : Bool} {r c : Instr} : rowWhen d r = some c ↔ d = true ∧ r = c := by
  unfold rowWhen; cases d <;> simp

theorem rowWhen_none {d : Bool} {r : Instr} : rowWhen d r = none ↔ d = false := by
  unfold rowWhen; cases d <;> simp

theorem Command.row_own (c : Command) : OwnRow c.row := by
  cases c <;> constructor

theorem FilingRequest.row_own (r : FilingRequest) : OwnRow r.row := by
  cases r <;> constructor

/-- What the part takes of itself is one of its own rows, and due. -/
theorem State.ownRow_due {s : State} {c : Instr} (h : s.ownRow = some c) : OwnRow c ∧ s.rowDue c := by
  unfold State.ownRow at h
  split at h
  · exact nomatch h
  · obtain ⟨a, ha, hc⟩ := List.exists_of_findSome?_eq_some h
    simp only [id] at hc
    subst hc
    simp only [State.ownRows, List.mem_cons, List.not_mem_nil, or_false, eq_comm (a := some c), rowWhen_some] at ha
    rcases ha with ⟨d, rfl⟩ | ha | ha | ⟨d, rfl⟩ | ⟨d, rfl⟩ | ⟨d, rfl⟩ | ⟨d, rfl⟩ | ⟨d, rfl⟩ | ⟨d, rfl⟩ | ⟨d, rfl⟩ | ⟨d, rfl⟩ |
      ⟨d, rfl⟩ | ⟨d, rfl⟩ | ⟨d, rfl⟩ | ⟨d, rfl⟩ | ⟨d, rfl⟩
    · exact ⟨.findAndSnapshot, s.rowDue_findAndSnapshot.2 d⟩
    · unfold State.filingRow at ha
      split at ha
      · next t =>
        obtain ⟨r, hr, rfl⟩ := Option.map_eq_some_iff.1 ha
        exact ⟨r.row_own, (State.rowDue_filing hr).2 t⟩
      · exact nomatch ha
    · unfold State.commandRow at ha
      split at ha
      · next k hk =>
        obtain ⟨d, rfl⟩ := rowWhen_some.1 ha
        exact ⟨k.row_own, (State.rowDue_command hk).2 d⟩
      · exact nomatch ha
    · exact ⟨.readForNotice, s.rowDue_readForNotice.2 d⟩
    · exact ⟨.frameEnd, s.rowDue_frameEnd.2 d⟩
    · exact ⟨.ringFrameEnd, s.rowDue_ringFrameEnd.2 d⟩
    · exact ⟨.sendOpportunity, s.rowDue_sendOpportunity.2 d⟩
    · exact ⟨.ringFrameStart, s.rowDue_ringFrameStart.2 d⟩
    · exact ⟨.responseWindowExpiry, s.rowDue_responseWindowExpiry.2 d⟩
    · exact ⟨.lonePauseEnd, s.rowDue_lonePauseEnd.2 d⟩
    · exact ⟨.silenceTimeout, s.rowDue_silenceTimeout.2 d⟩
    · exact ⟨.busResponseTimeout _, (s.rowDue_busResponseTimeout _).2 d⟩
    · exact ⟨.busResponseTimeout _, (s.rowDue_busResponseTimeout _).2 d⟩
    · exact ⟨.completionWrite, s.rowDue_completionWrite.2 d⟩
    · exact ⟨.linkNoticeWrite, s.rowDue_linkNoticeWrite.2 d⟩
    · exact ⟨.takeBegin, s.rowDue_takeBegin.2 d⟩

/-- With RESET high, when the part takes no row of itself, none of them is due. -/
theorem State.not_due_of_ownRow {s : State} (hr : s.resetLow = false) (h : s.ownRow = none) (c : Instr) (hc : OwnRow c) :
    ¬ s.rowDue c := by
  simp only [State.ownRow, hr, Bool.false_eq_true, if_false, List.findSome?_eq_none_iff, State.ownRows, List.mem_cons,
    List.not_mem_nil, or_false, forall_eq_or_imp, forall_eq, id, rowWhen_none] at h
  obtain ⟨h1, h2, h3, h4, h5, h6, h7, h8, h9, h10, h11, h12, h13, h14, h15, h16⟩ := h
  have hcmd : ∀ k, s.engine.checked = some k → ¬ s.rowDue k.row := by
    intro k hk
    rw [State.rowDue_command hk]
    simp only [State.commandRow, hk, rowWhen_none] at h3
    simp [h3]
  have hfil : ∀ r, s.filing = some r → ¬ s.rowDue r.row := by
    intro r hr
    rw [State.rowDue_filing hr]
    intro t
    simp [State.filingRow, hr, t] at h2
  cases hc with
  | takeBegin => simp [s.rowDue_takeBegin, h16]
  | nop => intro h; exact hcmd _ h h
  | store => intro h; obtain ⟨o, ho⟩ := h.1; exact hcmd _ ho h
  | fetch => intro h; obtain ⟨o, b, ho⟩ := h.1; exact hcmd _ ho h
  | send => intro h; obtain ⟨o, b, ho, _⟩ := id h; exact hcmd _ ho h
  | cancel => intro h; obtain ⟨o, ho⟩ := h.1; exact hcmd _ ho h
  | tableClear => intro h; exact hcmd _ h.1 h
  | linkStart => intro h; obtain ⟨o, ho⟩ := id h; exact hcmd _ ho h
  | linkStop => intro h; exact hcmd _ h h
  | mapRead => intro h; exact hcmd _ h h
  | barrier => intro h; exact hcmd _ h h
  | completionWrite => simp [s.rowDue_completionWrite, h14]
  | linkNoticeWrite => simp [s.rowDue_linkNoticeWrite, h15]
  | readForNotice => simp [s.rowDue_readForNotice, h4]
  | busResponseTimeout a => cases a <;> simp [s.rowDue_busResponseTimeout, h12, h13]
  | fileData => intro h; obtain ⟨o, b, p, ho⟩ := h.1; exact hfil _ ho h
  | fileSolicit => intro h; obtain ⟨o, b, ho⟩ := h.1; exact hfil _ ho h
  | silenceTimeout => simp [s.rowDue_silenceTimeout, h11]
  | responseWindowExpiry => simp [s.rowDue_responseWindowExpiry, h9]
  | lonePauseEnd => simp [s.rowDue_lonePauseEnd, h10]
  | sendOpportunity => simp [s.rowDue_sendOpportunity, h7]
  | findAndSnapshot => simp [s.rowDue_findAndSnapshot, h1]
  | ringFrameStart => simp [s.rowDue_ringFrameStart, h8]
  | frameEnd => simp [s.rowDue_frameEnd, h5]
  | ringFrameEnd => simp [s.rowDue_ringFrameEnd, h6]

/-- On an empty queue the part takes the row of its own that is due, or one clock passes (log 2). -/
theorem State.step_idle {s : State} (h : s.pending = []) :
    step s = match s.ownRow with | some c => exec c s | none => .next s.tick := by
  cases hr : s.ownRow <;> simp only [step, h, hr]

end Sys2Proof.Machine
end

