-- ==== Sys2Proof/Laws/Ring.lean ====
section
/-! SUPPORT. What the ring controller's shared operations do, in the statements' names, and how an arrival is read. -/

namespace Sys2Proof.Machine

theorem Timer.release_eq (t : Timer) : t.release = match t with | .held c => .running c | x => x := by
  cases t <;> rfl

theorem Timer.release_isStopped (t : Timer) : t.release.isStopped = t.isStopped := by
  cases t <;> rfl

/-- The silence timer restarts where the ring timers run (R40, R83). -/
theorem Ring.restartSilence_eq (r : Ring) : r.restartSilence =
    { r with silence := if r.link = .off ∨ r.link = .withdrawn then r.silence else .running 0 } := by
  unfold Ring.restartSilence LinkState.runsTimers
  cases h : r.link <;> simp
  all_goals rw [← h]

/-- A known kind's source is marked, and sets the clash flag when it is the own address (R42, R65). -/
theorem Ring.markSource_eq (r : Ring) (a : Arrival) : r.markSource a =
    { r with
      liveMap := match a.source with | some x => setMark r.liveMap x | none => r.liveMap
      clash := r.clash || decide (a.source = some r.ownAddress) } := by
  unfold Ring.markSource
  cases a.source <;> simp

/-- The parts of the state an arrival's first effects keep (R67). -/
theorem State.noteArrival_keeps (s : State) (a : Arrival) :
    (s.noteArrival a).ring.link = s.ring.link ∧ (s.noteArrival a).ring.stopRequest = s.ring.stopRequest ∧
      (s.noteArrival a).ring.listenOnly = s.ring.listenOnly ∧
      (s.noteArrival a).ring.ownAddress = s.ring.ownAddress ∧ (s.noteArrival a).ring.awaited = s.ring.awaited ∧
      (s.noteArrival a).line = s.line.endActivity ∧ (s.noteArrival a).sched = s.sched ∧
      (s.noteArrival a).lineActive = s.activeAfter a := by
  unfold State.noteArrival
  rw [Ring.markSource_eq, Ring.restartSilence_eq]
  exact ⟨rfl, rfl, rfl, rfl, rfl, rfl, rfl, rfl⟩

theorem Arrival.isTokenFor_iff (a : Arrival) (own : Addr) : a.isTokenFor own = true ↔ ∃ x, a = .token x own := by
  cases a <;> simp [Arrival.isTokenFor]

theorem Arrival.inviter_eq_some (a : Arrival) (own x : Addr) : a.inviter own = some x ↔ a = .invite x own := by
  cases a <;> simp [Arrival.inviter]
  tauto

theorem Arrival.inviter_eq_none (a : Arrival) (own : Addr) : a.inviter own = none ↔ ∀ x, a ≠ .invite x own := by
  cases a <;> simp [Arrival.inviter]

/-- A changed condition or successor is handed on and merged into the link notice (R84, R155). -/
theorem State.reportLink_changed {s : State} (h : s.ring.changed = true) : s.reportLink =
    (s.withRing { s.ring with lastCondition := s.ring.condition, lastSuccessor := s.ring.successor }).withEvents
      { s.events with
        linkNotice := some (mergeLinkNotice s.events.linkNotice s.ring.condition s.ring.successor) } := by
  unfold State.reportLink
  rw [if_pos h]

/-- With no change the comparison does nothing (R84). -/
theorem State.reportLink_same {s : State} (h : s.ring.changed = false) : s.reportLink = s := by
  unfold State.reportLink
  rw [if_neg (by simp [h])]

/-- After the comparison there is no change left to hand on. -/
theorem State.reportLink_settles (s : State) : s.reportLink.ring.changed = false := by
  cases h : s.ring.changed
  · rw [State.reportLink_same h]; exact h
  · rw [State.reportLink_changed h]
    simp [Ring.changed, State.withRing, State.withEvents, Ring.condition, Ring.successor]

/-- The comparison touches only what was last handed on and the link notice. -/
theorem State.reportLink_frame (s : State) :
    s.reportLink.slots = s.slots ∧ s.reportLink.filingCounter = s.filingCounter ∧ s.reportLink.claims = s.claims ∧
      s.reportLink.filing = s.filing ∧ s.reportLink.accessCount = s.accessCount ∧
      s.reportLink.lineActive = s.lineActive ∧
      s.reportLink.line = s.line ∧ s.reportLink.sched = s.sched ∧ s.reportLink.engine = s.engine ∧
      s.reportLink.regs = s.regs ∧ s.reportLink.resetLow = s.resetLow ∧ s.reportLink.freeCount = s.freeCount ∧
      s.reportLink.pending = s.pending ∧
      s.reportLink.ring =
        { s.ring with
          lastCondition := s.reportLink.ring.lastCondition, lastSuccessor := s.reportLink.ring.lastSuccessor } ∧
      s.reportLink.events = { s.events with linkNotice := s.reportLink.events.linkNotice } := by
  unfold State.reportLink
  split <;> exact ⟨rfl, rfl, rfl, rfl, rfl, rfl, rfl, rfl, rfl, rfl, rfl, rfl, rfl, rfl, rfl⟩

/-- The comparison and a change of the engine do not touch each other. -/
theorem State.reportLink_withEngine (s : State) (e : Engine) :
    (s.withEngine e).reportLink = s.reportLink.withEngine e := by
  cases h : s.ring.changed
  · rw [State.reportLink_same h, State.reportLink_same (s := s.withEngine e) h]
  · rw [State.reportLink_changed h, State.reportLink_changed (s := s.withEngine e) h]; rfl

/-- A frame is in flight exactly while there is a snapshot or a ring-controller frame (R35, R90). -/
theorem State.transmitting_iff (s : State) :
    s.transmitting = true ↔ (s.sched.snapshot ≠ none ∨ s.line.ringFrame ≠ none) := by
  simp [State.transmitting, Option.isSome_iff_ne_none]

/-- The receiver hunts and is not held (R32, R35). -/
theorem State.hunts_iff (s : State) :
    s.hunts = true ↔ s.line.receiver = .hunting ∧ s.transmitting = false := by
  simp [State.hunts]

/-- The line has rested at the idle level for 2 bt (R32). -/
theorem LineUnit.rested_iff (l : LineUnit) : l.rested = true ↔ 2 * l.divider ≤ l.idleClocks := by
  rw [LineUnit.rested, decide_eq_true_eq]; rfl

/-- An active level held through the middle of its bit time, and a glitch (R32). -/
theorem LineUnit.holdsBit_iff (l : LineUnit) (n : Nat) : l.holdsBit n = true ↔ l.divider ≤ 2 * n := by
  simp [LineUnit.holdsBit]

/-- An ACTIVITY_START is due while the line is at the idle level (log 8). -/
theorem State.activityDue_iff (s : State) (n : Nat) : s.activityDue n = true ↔ s.lineActive = 0 ∧ n ≠ 0 := by
  rw [State.activityDue, Bool.and_eq_true, decide_eq_true_eq, decide_eq_true_eq]

/-- While the line is active, and with no clock, an ACTIVITY_START changes nothing (logs 1 and 8). -/
theorem execActivityStart_not_due {s : State} {n : Nat} (h : ¬ (s.lineActive = 0 ∧ n ≠ 0)) :
    execActivityStart n s = .next s := by
  rw [execActivityStart, if_neg (mt (s.activityDue_iff n).1 h)]

/-- The line leaves the idle level: what the receiver makes of it, and the line (R32). -/
theorem execActivityStart_due {s : State} {n : Nat} (h : s.lineActive = 0 ∧ n ≠ 0) :
    execActivityStart n s = .next ((s.seeActive n).withLineActive n) := by
  rw [execActivityStart, if_pos ((s.activityDue_iff n).2 h)]

/-- A reported activity start: the receiver assembles, and the ring timers are held (R32, R39 to R41). -/
theorem State.seeActive_reported {s : State} {n : Nat} (h : s.hunts = true) (r : s.line.rested = true)
    (b : s.line.holdsBit n = true) :
    s.seeActive n = (s.withLine { s.line with receiver := .assembling }).withRing s.ring.holdTimers := by
  simp [State.seeActive, h, r, b]

/-- An active level not reported: the 2 bt of idle line are counted anew (R32, log 8). -/
theorem State.seeActive_unreported {s : State} {n : Nat} (h : s.hunts = true)
    (r : ¬ (s.line.rested = true ∧ s.line.holdsBit n = true)) :
    s.seeActive n = s.withLine { s.line with idleClocks := 0 } := by
  rw [State.seeActive, if_pos h, if_neg (by rwa [Bool.and_eq_true])]

/-- A receiver that does not hunt takes no notice (R32, R35). -/
theorem State.seeActive_not_hunting {s : State} {n : Nat} (h : ¬ s.hunts = true) : s.seeActive n = s := by
  rw [State.seeActive, if_neg h]

/-- The kind of the waiting request. -/
theorem State.waitKind_some {s : State} {w : Waiting} (h : s.line.waiting = some w) : s.waitKind = some w.kind := by
  simp [State.waitKind, h]

end Sys2Proof.Machine
end

