-- ==== Sys2Proof/Laws/SlotTable.lean ====
section
/-! SUPPORT. What the slot table's scans find and what its writes leave. -/

namespace Sys2Proof.Machine

theorem State.withSlot_getSlot (s : State) (k : SlotId) (x : Slot) : (s.withSlot k x).slots[k] = x := by
  show (s.slots.set k x)[k] = x
  simp

theorem State.withSlot_getOther (s : State) {k j : SlotId} (x : Slot) (h : k ≠ j) :
    (s.withSlot k x).slots[j] = s.slots[j] := by
  show (s.slots.set k x)[j] = s.slots[j]
  have : k.val ≠ j.val := fun h' => h (Fin.ext h')
  simp [this]

/-- A filing's scan finds no slot when none meets its conditions (R47, R54). -/
theorem firstSlot_eq_none {p : Slot → Bool} {v : Vector Slot 64} :
    firstSlot p v = none ↔ ∀ k : SlotId, p v[k] = false := by
  simp [firstSlot, List.find?_eq_none]

/-- The slot a filing's scan finds meets its conditions. -/
theorem firstSlot_meets {p : Slot → Bool} {v : Vector Slot 64} {k : SlotId} (h : firstSlot p v = some k) :
    p v[k] = true := by
  unfold firstSlot at h
  exact List.find?_some (p := fun k : SlotId => p v[k]) h

/-- A filing's scan finds the first slot, from slot 0 upward, that meets its conditions. -/
theorem firstSlot_eq_some {p : Slot → Bool} {v : Vector Slot 64} {k : SlotId} (h1 : p v[k] = true)
    (h2 : ∀ j < k, p v[j] = false) : firstSlot p v = some k := by
  cases h : firstSlot p v with
  | none => rw [firstSlot_eq_none] at h; rw [h k] at h1; simp at h1
  | some m =>
    have hm := firstSlot_meets h
    unfold firstSlot at h
    rw [List.find?_eq_some_iff_getElem] at h
    obtain ⟨_, i, hi, hmi, hbefore⟩ := h
    simp at hi hmi hbefore
    have hm' : m = ⟨i, hi⟩ := by rw [← hmi]
    subst hm'
    congr 1
    rcases lt_trichotomy (⟨i, hi⟩ : Fin 64) k with hlt | heq | hgt
    · have := h2 _ hlt; simp_all
    · exact heq
    · have := hbefore k.val hgt; simp_all

/-- The find-and-snapshot's scan stops at no slot when none is in service with send pending (R16). -/
theorem findPending_eq_none {c : SlotId} {v : Vector Slot 64} :
    findPending c v = none ↔ ∀ k : SlotId, (v[k].inService && v[k].sendPending) = false := by
  unfold findPending scanOrder
  simp only [List.find?_map, Option.map_eq_none_iff, List.find?_eq_none, List.mem_finRange, true_implies, Function.comp]
  constructor
  · intro h k
    have := h (k - c)
    simp only [show c + (k - c) = k by abel] at this
    simpa using this
  · intro h k
    simpa using h (c + k)

/-- The find-and-snapshot's scan stops at the first slot from the cursor upward, wrapping (R16). -/
theorem findPending_eq_some {c : SlotId} {v : Vector Slot 64} {k : SlotId}
    (h1 : (v[k].inService && v[k].sendPending) = true)
    (h2 : ∀ j : SlotId, (j - c).val < (k - c).val → (v[j].inService && v[j].sendPending) = false) :
    findPending c v = some k := by
  unfold findPending scanOrder
  rw [List.find?_map]
  have : (List.finRange 64).find? ((fun k : SlotId => v[k].inService && v[k].sendPending) ∘ fun d => c + d)
      = some (k - c) := by
    rw [List.find?_eq_some_iff_getElem]
    refine ⟨?_, (k - c).val, by simp, by simp, ?_⟩
    · simp only [Function.comp, add_sub_cancel]; exact h1
    · intro j hj
      have := h2 (c + ⟨j, by omega⟩) (by rw [add_sub_cancel_left]; exact hj)
      simp only [Function.comp, List.getElem_finRange]
      rw [Bool.not_eq_true']; exact this
  rw [this]; simp

/-- Every field of the slot a STORE leaves (R10 to R12, R130). -/
theorem StoreOperands.apply_eq (o : StoreOperands) (x : Slot) : o.apply x =
    { inService := (o.setup.map (·.inService)).getD x.inService
      role := (o.setup.map (·.role)).getD x.role
      key := (o.setup.map (·.key)).getD x.key
      mask := (o.setup.map (·.mask)).getD x.mask
      maskInUse := (o.setup.map (·.maskInUse)).getD x.maskInUse
      depotEnd := (o.setup.map (·.depotEnd)).getD x.depotEnd
      answer := (o.behaviour.map (·.answer)).getD x.answer
      notify := (o.behaviour.map (·.notify)).getD x.notify
      keepFirst := (o.behaviour.map (·.keepFirst)).getD x.keepFirst
      length := (o.content.map (·.length)).getD x.length
      data := (o.content.map fun g =>
        Vector.ofFn fun i : Fin 16 => if i.val < g.length then g.bytes.getD i.val 0 else 0).getD x.data
      source := if o.setup.isSome && (o.setup.map (·.inService)).getD x.inService then none else x.source
      filingNumber := if o.setup.isSome && (o.setup.map (·.inService)).getD x.inService then none else x.filingNumber
      fresh := x.fresh && o.setup.isNone && !o.clearStatus
      overrun := x.overrun && o.setup.isNone && !o.clearStatus
      sendPending := o.sendAfter || (x.sendPending && o.setup.isNone) } := by
  simp only [StoreOperands.apply]
  rcases o with ⟨k, _ | ⟨si, a2, a3, a4, a5, a6⟩, b, c, cs, sa⟩ <;> cases b <;> cases c <;> cases cs <;> cases sa <;>
    try cases si
  all_goals simp [Slot.setUp, Slot.setBehaviour, Slot.setContent, Slot.consumed, Slot.closed, padData]

/-- A DATA filing touches only the slots, the filing counter and the notice list. -/
theorem State.fileData_frame (s : State) (source : Addr) (key : Key) (payload : List Byte) :
    s.fileData source key payload =
      ((s.withSlots (s.fileData source key payload).slots).withFilingCounter
        (s.fileData source key payload).filingCounter).withNoticeList (s.fileData source key payload).events.noticeList := by
  unfold State.fileData
  repeat' split
  all_goals first | rfl | skip
  all_goals (simp only; repeat' split)
  all_goals rfl

/-- A SOLICIT filing touches only the slots and the notice list. -/
theorem State.fileSolicit_frame (s : State) (key : Key) :
    s.fileSolicit key =
      (s.withSlots (s.fileSolicit key).slots).withNoticeList (s.fileSolicit key).events.noticeList := by
  unfold State.fileSolicit
  repeat' split
  all_goals rfl

/-- Handing a request on touches only the filing path and the claims waiting at the slot table (R9, R45). -/
theorem State.handOn_eq (s : State) (r : FilingRequest) :
    s.handOn r = { s with filing := some r, claims := s.claims ++ [.filing] } := rfl

end Sys2Proof.Machine
end

