-- ==== Sys2Proof/Laws/State.lean ====
section
/-! SUPPORT. One lemma for each field of State and each block update: the updated block is the one given, every other
field is unchanged. -/

namespace Sys2Proof.Machine

/-! ### withSlots -/

@[simp] theorem State.withSlots_slots (s : State) (v : Vector Slot 64) : (s.withSlots v).slots = v := rfl
@[simp] theorem State.withSlots_filingCounter (s : State) (v : Vector Slot 64) : (s.withSlots v).filingCounter = s.filingCounter := rfl
@[simp] theorem State.withSlots_claims (s : State) (v : Vector Slot 64) : (s.withSlots v).claims = s.claims := rfl
@[simp] theorem State.withSlots_filing (s : State) (v : Vector Slot 64) : (s.withSlots v).filing = s.filing := rfl
@[simp] theorem State.withSlots_line (s : State) (v : Vector Slot 64) : (s.withSlots v).line = s.line := rfl
@[simp] theorem State.withSlots_ring (s : State) (v : Vector Slot 64) : (s.withSlots v).ring = s.ring := rfl
@[simp] theorem State.withSlots_sched (s : State) (v : Vector Slot 64) : (s.withSlots v).sched = s.sched := rfl
@[simp] theorem State.withSlots_engine (s : State) (v : Vector Slot 64) : (s.withSlots v).engine = s.engine := rfl
@[simp] theorem State.withSlots_events (s : State) (v : Vector Slot 64) : (s.withSlots v).events = s.events := rfl
@[simp] theorem State.withSlots_regs (s : State) (v : Vector Slot 64) : (s.withSlots v).regs = s.regs := rfl
@[simp] theorem State.withSlots_resetLow (s : State) (v : Vector Slot 64) : (s.withSlots v).resetLow = s.resetLow := rfl
@[simp] theorem State.withSlots_lineActive (s : State) (v : Vector Slot 64) : (s.withSlots v).lineActive = s.lineActive := rfl
@[simp] theorem State.withSlots_accessCount (s : State) (v : Vector Slot 64) : (s.withSlots v).accessCount = s.accessCount := rfl
@[simp] theorem State.withSlots_freeCount (s : State) (v : Vector Slot 64) : (s.withSlots v).freeCount = s.freeCount := rfl
@[simp] theorem State.withSlots_pending (s : State) (v : Vector Slot 64) : (s.withSlots v).pending = s.pending := rfl

/-! ### withFilingCounter -/

@[simp] theorem State.withFilingCounter_slots (s : State) (n : Half) : (s.withFilingCounter n).slots = s.slots := rfl
@[simp] theorem State.withFilingCounter_filingCounter (s : State) (n : Half) : (s.withFilingCounter n).filingCounter = n := rfl
@[simp] theorem State.withFilingCounter_claims (s : State) (n : Half) : (s.withFilingCounter n).claims = s.claims := rfl
@[simp] theorem State.withFilingCounter_filing (s : State) (n : Half) : (s.withFilingCounter n).filing = s.filing := rfl
@[simp] theorem State.withFilingCounter_line (s : State) (n : Half) : (s.withFilingCounter n).line = s.line := rfl
@[simp] theorem State.withFilingCounter_ring (s : State) (n : Half) : (s.withFilingCounter n).ring = s.ring := rfl
@[simp] theorem State.withFilingCounter_sched (s : State) (n : Half) : (s.withFilingCounter n).sched = s.sched := rfl
@[simp] theorem State.withFilingCounter_engine (s : State) (n : Half) : (s.withFilingCounter n).engine = s.engine := rfl
@[simp] theorem State.withFilingCounter_events (s : State) (n : Half) : (s.withFilingCounter n).events = s.events := rfl
@[simp] theorem State.withFilingCounter_regs (s : State) (n : Half) : (s.withFilingCounter n).regs = s.regs := rfl
@[simp] theorem State.withFilingCounter_resetLow (s : State) (n : Half) : (s.withFilingCounter n).resetLow = s.resetLow := rfl
@[simp] theorem State.withFilingCounter_lineActive (s : State) (n : Half) : (s.withFilingCounter n).lineActive = s.lineActive := rfl
@[simp] theorem State.withFilingCounter_accessCount (s : State) (n : Half) : (s.withFilingCounter n).accessCount = s.accessCount := rfl
@[simp] theorem State.withFilingCounter_freeCount (s : State) (n : Half) : (s.withFilingCounter n).freeCount = s.freeCount := rfl
@[simp] theorem State.withFilingCounter_pending (s : State) (n : Half) : (s.withFilingCounter n).pending = s.pending := rfl

/-! ### withClaims -/

@[simp] theorem State.withClaims_slots (s : State) (l : List Claim) : (s.withClaims l).slots = s.slots := rfl
@[simp] theorem State.withClaims_filingCounter (s : State) (l : List Claim) : (s.withClaims l).filingCounter = s.filingCounter := rfl
@[simp] theorem State.withClaims_claims (s : State) (l : List Claim) : (s.withClaims l).claims = l := rfl
@[simp] theorem State.withClaims_filing (s : State) (l : List Claim) : (s.withClaims l).filing = s.filing := rfl
@[simp] theorem State.withClaims_line (s : State) (l : List Claim) : (s.withClaims l).line = s.line := rfl
@[simp] theorem State.withClaims_ring (s : State) (l : List Claim) : (s.withClaims l).ring = s.ring := rfl
@[simp] theorem State.withClaims_sched (s : State) (l : List Claim) : (s.withClaims l).sched = s.sched := rfl
@[simp] theorem State.withClaims_engine (s : State) (l : List Claim) : (s.withClaims l).engine = s.engine := rfl
@[simp] theorem State.withClaims_events (s : State) (l : List Claim) : (s.withClaims l).events = s.events := rfl
@[simp] theorem State.withClaims_regs (s : State) (l : List Claim) : (s.withClaims l).regs = s.regs := rfl
@[simp] theorem State.withClaims_resetLow (s : State) (l : List Claim) : (s.withClaims l).resetLow = s.resetLow := rfl
@[simp] theorem State.withClaims_lineActive (s : State) (l : List Claim) : (s.withClaims l).lineActive = s.lineActive := rfl
@[simp] theorem State.withClaims_accessCount (s : State) (l : List Claim) : (s.withClaims l).accessCount = s.accessCount := rfl
@[simp] theorem State.withClaims_freeCount (s : State) (l : List Claim) : (s.withClaims l).freeCount = s.freeCount := rfl
@[simp] theorem State.withClaims_pending (s : State) (l : List Claim) : (s.withClaims l).pending = s.pending := rfl

/-! ### addClaim -/

@[simp] theorem State.addClaim_slots (s : State) (c : Claim) : (s.addClaim c).slots = s.slots := rfl
@[simp] theorem State.addClaim_filingCounter (s : State) (c : Claim) : (s.addClaim c).filingCounter = s.filingCounter := rfl
@[simp] theorem State.addClaim_claims (s : State) (c : Claim) : (s.addClaim c).claims = s.claims ++ [c] := rfl
@[simp] theorem State.addClaim_filing (s : State) (c : Claim) : (s.addClaim c).filing = s.filing := rfl
@[simp] theorem State.addClaim_line (s : State) (c : Claim) : (s.addClaim c).line = s.line := rfl
@[simp] theorem State.addClaim_ring (s : State) (c : Claim) : (s.addClaim c).ring = s.ring := rfl
@[simp] theorem State.addClaim_sched (s : State) (c : Claim) : (s.addClaim c).sched = s.sched := rfl
@[simp] theorem State.addClaim_engine (s : State) (c : Claim) : (s.addClaim c).engine = s.engine := rfl
@[simp] theorem State.addClaim_events (s : State) (c : Claim) : (s.addClaim c).events = s.events := rfl
@[simp] theorem State.addClaim_regs (s : State) (c : Claim) : (s.addClaim c).regs = s.regs := rfl
@[simp] theorem State.addClaim_resetLow (s : State) (c : Claim) : (s.addClaim c).resetLow = s.resetLow := rfl
@[simp] theorem State.addClaim_lineActive (s : State) (c : Claim) : (s.addClaim c).lineActive = s.lineActive := rfl
@[simp] theorem State.addClaim_accessCount (s : State) (c : Claim) : (s.addClaim c).accessCount = s.accessCount := rfl
@[simp] theorem State.addClaim_freeCount (s : State) (c : Claim) : (s.addClaim c).freeCount = s.freeCount := rfl
@[simp] theorem State.addClaim_pending (s : State) (c : Claim) : (s.addClaim c).pending = s.pending := rfl

/-! ### dropClaim -/

@[simp] theorem State.dropClaim_slots (s : State) (c : Claim) : (s.dropClaim c).slots = s.slots := rfl
@[simp] theorem State.dropClaim_filingCounter (s : State) (c : Claim) : (s.dropClaim c).filingCounter = s.filingCounter := rfl
@[simp] theorem State.dropClaim_claims (s : State) (c : Claim) : (s.dropClaim c).claims = s.claims.erase c := rfl
@[simp] theorem State.dropClaim_filing (s : State) (c : Claim) : (s.dropClaim c).filing = s.filing := rfl
@[simp] theorem State.dropClaim_line (s : State) (c : Claim) : (s.dropClaim c).line = s.line := rfl
@[simp] theorem State.dropClaim_ring (s : State) (c : Claim) : (s.dropClaim c).ring = s.ring := rfl
@[simp] theorem State.dropClaim_sched (s : State) (c : Claim) : (s.dropClaim c).sched = s.sched := rfl
@[simp] theorem State.dropClaim_engine (s : State) (c : Claim) : (s.dropClaim c).engine = s.engine := rfl
@[simp] theorem State.dropClaim_events (s : State) (c : Claim) : (s.dropClaim c).events = s.events := rfl
@[simp] theorem State.dropClaim_regs (s : State) (c : Claim) : (s.dropClaim c).regs = s.regs := rfl
@[simp] theorem State.dropClaim_resetLow (s : State) (c : Claim) : (s.dropClaim c).resetLow = s.resetLow := rfl
@[simp] theorem State.dropClaim_lineActive (s : State) (c : Claim) : (s.dropClaim c).lineActive = s.lineActive := rfl
@[simp] theorem State.dropClaim_accessCount (s : State) (c : Claim) : (s.dropClaim c).accessCount = s.accessCount := rfl
@[simp] theorem State.dropClaim_freeCount (s : State) (c : Claim) : (s.dropClaim c).freeCount = s.freeCount := rfl
@[simp] theorem State.dropClaim_pending (s : State) (c : Claim) : (s.dropClaim c).pending = s.pending := rfl

/-! ### withLineActive -/

@[simp] theorem State.withLineActive_slots (s : State) (n : Nat) : (s.withLineActive n).slots = s.slots := rfl
@[simp] theorem State.withLineActive_filingCounter (s : State) (n : Nat) : (s.withLineActive n).filingCounter = s.filingCounter := rfl
@[simp] theorem State.withLineActive_claims (s : State) (n : Nat) : (s.withLineActive n).claims = s.claims := rfl
@[simp] theorem State.withLineActive_filing (s : State) (n : Nat) : (s.withLineActive n).filing = s.filing := rfl
@[simp] theorem State.withLineActive_line (s : State) (n : Nat) : (s.withLineActive n).line = s.line := rfl
@[simp] theorem State.withLineActive_ring (s : State) (n : Nat) : (s.withLineActive n).ring = s.ring := rfl
@[simp] theorem State.withLineActive_sched (s : State) (n : Nat) : (s.withLineActive n).sched = s.sched := rfl
@[simp] theorem State.withLineActive_engine (s : State) (n : Nat) : (s.withLineActive n).engine = s.engine := rfl
@[simp] theorem State.withLineActive_events (s : State) (n : Nat) : (s.withLineActive n).events = s.events := rfl
@[simp] theorem State.withLineActive_regs (s : State) (n : Nat) : (s.withLineActive n).regs = s.regs := rfl
@[simp] theorem State.withLineActive_resetLow (s : State) (n : Nat) : (s.withLineActive n).resetLow = s.resetLow := rfl
@[simp] theorem State.withLineActive_lineActive (s : State) (n : Nat) : (s.withLineActive n).lineActive = n := rfl
@[simp] theorem State.withLineActive_accessCount (s : State) (n : Nat) : (s.withLineActive n).accessCount = s.accessCount := rfl
@[simp] theorem State.withLineActive_freeCount (s : State) (n : Nat) : (s.withLineActive n).freeCount = s.freeCount := rfl
@[simp] theorem State.withLineActive_pending (s : State) (n : Nat) : (s.withLineActive n).pending = s.pending := rfl

/-! ### countAccess -/

@[simp] theorem State.countAccess_slots (s : State) : (s.countAccess).slots = s.slots := rfl
@[simp] theorem State.countAccess_filingCounter (s : State) : (s.countAccess).filingCounter = s.filingCounter := rfl
@[simp] theorem State.countAccess_claims (s : State) : (s.countAccess).claims = s.claims := rfl
@[simp] theorem State.countAccess_filing (s : State) : (s.countAccess).filing = s.filing := rfl
@[simp] theorem State.countAccess_line (s : State) : (s.countAccess).line = s.line := rfl
@[simp] theorem State.countAccess_ring (s : State) : (s.countAccess).ring = s.ring := rfl
@[simp] theorem State.countAccess_sched (s : State) : (s.countAccess).sched = s.sched := rfl
@[simp] theorem State.countAccess_engine (s : State) : (s.countAccess).engine = s.engine := rfl
@[simp] theorem State.countAccess_events (s : State) : (s.countAccess).events = s.events := rfl
@[simp] theorem State.countAccess_regs (s : State) : (s.countAccess).regs = s.regs := rfl
@[simp] theorem State.countAccess_resetLow (s : State) : (s.countAccess).resetLow = s.resetLow := rfl
@[simp] theorem State.countAccess_lineActive (s : State) : (s.countAccess).lineActive = s.lineActive := rfl
@[simp] theorem State.countAccess_accessCount (s : State) : (s.countAccess).accessCount = s.accessCount + 1 := rfl
@[simp] theorem State.countAccess_freeCount (s : State) : (s.countAccess).freeCount = s.freeCount := rfl
@[simp] theorem State.countAccess_pending (s : State) : (s.countAccess).pending = s.pending := rfl

/-! ### withMapReads -/

@[simp] theorem State.withMapReads_slots (s : State) (m : MapReads) : (s.withMapReads m).slots = s.slots := rfl
@[simp] theorem State.withMapReads_filingCounter (s : State) (m : MapReads) : (s.withMapReads m).filingCounter = s.filingCounter := rfl
@[simp] theorem State.withMapReads_claims (s : State) (m : MapReads) : (s.withMapReads m).claims = s.claims := rfl
@[simp] theorem State.withMapReads_filing (s : State) (m : MapReads) : (s.withMapReads m).filing = s.filing := rfl
@[simp] theorem State.withMapReads_line (s : State) (m : MapReads) : (s.withMapReads m).line = s.line := rfl
@[simp] theorem State.withMapReads_ring (s : State) (m : MapReads) : (s.withMapReads m).ring = s.ring := rfl
@[simp] theorem State.withMapReads_sched (s : State) (m : MapReads) : (s.withMapReads m).sched = s.sched := rfl
@[simp] theorem State.withMapReads_engine (s : State) (m : MapReads) : (s.withMapReads m).engine = { s.engine with mapReads := m } := rfl
@[simp] theorem State.withMapReads_events (s : State) (m : MapReads) : (s.withMapReads m).events = s.events := rfl
@[simp] theorem State.withMapReads_regs (s : State) (m : MapReads) : (s.withMapReads m).regs = s.regs := rfl
@[simp] theorem State.withMapReads_resetLow (s : State) (m : MapReads) : (s.withMapReads m).resetLow = s.resetLow := rfl
@[simp] theorem State.withMapReads_lineActive (s : State) (m : MapReads) : (s.withMapReads m).lineActive = s.lineActive := rfl
@[simp] theorem State.withMapReads_accessCount (s : State) (m : MapReads) : (s.withMapReads m).accessCount = s.accessCount := rfl
@[simp] theorem State.withMapReads_freeCount (s : State) (m : MapReads) : (s.withMapReads m).freeCount = s.freeCount := rfl
@[simp] theorem State.withMapReads_pending (s : State) (m : MapReads) : (s.withMapReads m).pending = s.pending := rfl

/-! ### withFiling -/

@[simp] theorem State.withFiling_slots (s : State) (r : Option FilingRequest) : (s.withFiling r).slots = s.slots := rfl
@[simp] theorem State.withFiling_filingCounter (s : State) (r : Option FilingRequest) : (s.withFiling r).filingCounter = s.filingCounter := rfl
@[simp] theorem State.withFiling_claims (s : State) (r : Option FilingRequest) : (s.withFiling r).claims = s.claims := rfl
@[simp] theorem State.withFiling_filing (s : State) (r : Option FilingRequest) : (s.withFiling r).filing = r := rfl
@[simp] theorem State.withFiling_line (s : State) (r : Option FilingRequest) : (s.withFiling r).line = s.line := rfl
@[simp] theorem State.withFiling_ring (s : State) (r : Option FilingRequest) : (s.withFiling r).ring = s.ring := rfl
@[simp] theorem State.withFiling_sched (s : State) (r : Option FilingRequest) : (s.withFiling r).sched = s.sched := rfl
@[simp] theorem State.withFiling_engine (s : State) (r : Option FilingRequest) : (s.withFiling r).engine = s.engine := rfl
@[simp] theorem State.withFiling_events (s : State) (r : Option FilingRequest) : (s.withFiling r).events = s.events := rfl
@[simp] theorem State.withFiling_regs (s : State) (r : Option FilingRequest) : (s.withFiling r).regs = s.regs := rfl
@[simp] theorem State.withFiling_resetLow (s : State) (r : Option FilingRequest) : (s.withFiling r).resetLow = s.resetLow := rfl
@[simp] theorem State.withFiling_lineActive (s : State) (r : Option FilingRequest) : (s.withFiling r).lineActive = s.lineActive := rfl
@[simp] theorem State.withFiling_accessCount (s : State) (r : Option FilingRequest) : (s.withFiling r).accessCount = s.accessCount := rfl
@[simp] theorem State.withFiling_freeCount (s : State) (r : Option FilingRequest) : (s.withFiling r).freeCount = s.freeCount := rfl
@[simp] theorem State.withFiling_pending (s : State) (r : Option FilingRequest) : (s.withFiling r).pending = s.pending := rfl

/-! ### withLine -/

@[simp] theorem State.withLine_slots (s : State) (l : LineUnit) : (s.withLine l).slots = s.slots := rfl
@[simp] theorem State.withLine_filingCounter (s : State) (l : LineUnit) : (s.withLine l).filingCounter = s.filingCounter := rfl
@[simp] theorem State.withLine_claims (s : State) (l : LineUnit) : (s.withLine l).claims = s.claims := rfl
@[simp] theorem State.withLine_filing (s : State) (l : LineUnit) : (s.withLine l).filing = s.filing := rfl
@[simp] theorem State.withLine_line (s : State) (l : LineUnit) : (s.withLine l).line = l := rfl
@[simp] theorem State.withLine_ring (s : State) (l : LineUnit) : (s.withLine l).ring = s.ring := rfl
@[simp] theorem State.withLine_sched (s : State) (l : LineUnit) : (s.withLine l).sched = s.sched := rfl
@[simp] theorem State.withLine_engine (s : State) (l : LineUnit) : (s.withLine l).engine = s.engine := rfl
@[simp] theorem State.withLine_events (s : State) (l : LineUnit) : (s.withLine l).events = s.events := rfl
@[simp] theorem State.withLine_regs (s : State) (l : LineUnit) : (s.withLine l).regs = s.regs := rfl
@[simp] theorem State.withLine_resetLow (s : State) (l : LineUnit) : (s.withLine l).resetLow = s.resetLow := rfl
@[simp] theorem State.withLine_lineActive (s : State) (l : LineUnit) : (s.withLine l).lineActive = s.lineActive := rfl
@[simp] theorem State.withLine_accessCount (s : State) (l : LineUnit) : (s.withLine l).accessCount = s.accessCount := rfl
@[simp] theorem State.withLine_freeCount (s : State) (l : LineUnit) : (s.withLine l).freeCount = s.freeCount := rfl
@[simp] theorem State.withLine_pending (s : State) (l : LineUnit) : (s.withLine l).pending = s.pending := rfl

/-! ### withRing -/

@[simp] theorem State.withRing_slots (s : State) (r : Ring) : (s.withRing r).slots = s.slots := rfl
@[simp] theorem State.withRing_filingCounter (s : State) (r : Ring) : (s.withRing r).filingCounter = s.filingCounter := rfl
@[simp] theorem State.withRing_claims (s : State) (r : Ring) : (s.withRing r).claims = s.claims := rfl
@[simp] theorem State.withRing_filing (s : State) (r : Ring) : (s.withRing r).filing = s.filing := rfl
@[simp] theorem State.withRing_line (s : State) (r : Ring) : (s.withRing r).line = s.line := rfl
@[simp] theorem State.withRing_ring (s : State) (r : Ring) : (s.withRing r).ring = r := rfl
@[simp] theorem State.withRing_sched (s : State) (r : Ring) : (s.withRing r).sched = s.sched := rfl
@[simp] theorem State.withRing_engine (s : State) (r : Ring) : (s.withRing r).engine = s.engine := rfl
@[simp] theorem State.withRing_events (s : State) (r : Ring) : (s.withRing r).events = s.events := rfl
@[simp] theorem State.withRing_regs (s : State) (r : Ring) : (s.withRing r).regs = s.regs := rfl
@[simp] theorem State.withRing_resetLow (s : State) (r : Ring) : (s.withRing r).resetLow = s.resetLow := rfl
@[simp] theorem State.withRing_lineActive (s : State) (r : Ring) : (s.withRing r).lineActive = s.lineActive := rfl
@[simp] theorem State.withRing_accessCount (s : State) (r : Ring) : (s.withRing r).accessCount = s.accessCount := rfl
@[simp] theorem State.withRing_freeCount (s : State) (r : Ring) : (s.withRing r).freeCount = s.freeCount := rfl
@[simp] theorem State.withRing_pending (s : State) (r : Ring) : (s.withRing r).pending = s.pending := rfl

/-! ### withSched -/

@[simp] theorem State.withSched_slots (s : State) (c : Scheduler) : (s.withSched c).slots = s.slots := rfl
@[simp] theorem State.withSched_filingCounter (s : State) (c : Scheduler) : (s.withSched c).filingCounter = s.filingCounter := rfl
@[simp] theorem State.withSched_claims (s : State) (c : Scheduler) : (s.withSched c).claims = s.claims := rfl
@[simp] theorem State.withSched_filing (s : State) (c : Scheduler) : (s.withSched c).filing = s.filing := rfl
@[simp] theorem State.withSched_line (s : State) (c : Scheduler) : (s.withSched c).line = s.line := rfl
@[simp] theorem State.withSched_ring (s : State) (c : Scheduler) : (s.withSched c).ring = s.ring := rfl
@[simp] theorem State.withSched_sched (s : State) (c : Scheduler) : (s.withSched c).sched = c := rfl
@[simp] theorem State.withSched_engine (s : State) (c : Scheduler) : (s.withSched c).engine = s.engine := rfl
@[simp] theorem State.withSched_events (s : State) (c : Scheduler) : (s.withSched c).events = s.events := rfl
@[simp] theorem State.withSched_regs (s : State) (c : Scheduler) : (s.withSched c).regs = s.regs := rfl
@[simp] theorem State.withSched_resetLow (s : State) (c : Scheduler) : (s.withSched c).resetLow = s.resetLow := rfl
@[simp] theorem State.withSched_lineActive (s : State) (c : Scheduler) : (s.withSched c).lineActive = s.lineActive := rfl
@[simp] theorem State.withSched_accessCount (s : State) (c : Scheduler) : (s.withSched c).accessCount = s.accessCount := rfl
@[simp] theorem State.withSched_freeCount (s : State) (c : Scheduler) : (s.withSched c).freeCount = s.freeCount := rfl
@[simp] theorem State.withSched_pending (s : State) (c : Scheduler) : (s.withSched c).pending = s.pending := rfl

/-! ### withEngine -/

@[simp] theorem State.withEngine_slots (s : State) (e : Engine) : (s.withEngine e).slots = s.slots := rfl
@[simp] theorem State.withEngine_filingCounter (s : State) (e : Engine) : (s.withEngine e).filingCounter = s.filingCounter := rfl
@[simp] theorem State.withEngine_claims (s : State) (e : Engine) : (s.withEngine e).claims = s.claims := rfl
@[simp] theorem State.withEngine_filing (s : State) (e : Engine) : (s.withEngine e).filing = s.filing := rfl
@[simp] theorem State.withEngine_line (s : State) (e : Engine) : (s.withEngine e).line = s.line := rfl
@[simp] theorem State.withEngine_ring (s : State) (e : Engine) : (s.withEngine e).ring = s.ring := rfl
@[simp] theorem State.withEngine_sched (s : State) (e : Engine) : (s.withEngine e).sched = s.sched := rfl
@[simp] theorem State.withEngine_engine (s : State) (e : Engine) : (s.withEngine e).engine = e := rfl
@[simp] theorem State.withEngine_events (s : State) (e : Engine) : (s.withEngine e).events = s.events := rfl
@[simp] theorem State.withEngine_regs (s : State) (e : Engine) : (s.withEngine e).regs = s.regs := rfl
@[simp] theorem State.withEngine_resetLow (s : State) (e : Engine) : (s.withEngine e).resetLow = s.resetLow := rfl
@[simp] theorem State.withEngine_lineActive (s : State) (e : Engine) : (s.withEngine e).lineActive = s.lineActive := rfl
@[simp] theorem State.withEngine_accessCount (s : State) (e : Engine) : (s.withEngine e).accessCount = s.accessCount := rfl
@[simp] theorem State.withEngine_freeCount (s : State) (e : Engine) : (s.withEngine e).freeCount = s.freeCount := rfl
@[simp] theorem State.withEngine_pending (s : State) (e : Engine) : (s.withEngine e).pending = s.pending := rfl

/-! ### withEvents -/

@[simp] theorem State.withEvents_slots (s : State) (e : EventWriter) : (s.withEvents e).slots = s.slots := rfl
@[simp] theorem State.withEvents_filingCounter (s : State) (e : EventWriter) : (s.withEvents e).filingCounter = s.filingCounter := rfl
@[simp] theorem State.withEvents_claims (s : State) (e : EventWriter) : (s.withEvents e).claims = s.claims := rfl
@[simp] theorem State.withEvents_filing (s : State) (e : EventWriter) : (s.withEvents e).filing = s.filing := rfl
@[simp] theorem State.withEvents_line (s : State) (e : EventWriter) : (s.withEvents e).line = s.line := rfl
@[simp] theorem State.withEvents_ring (s : State) (e : EventWriter) : (s.withEvents e).ring = s.ring := rfl
@[simp] theorem State.withEvents_sched (s : State) (e : EventWriter) : (s.withEvents e).sched = s.sched := rfl
@[simp] theorem State.withEvents_engine (s : State) (e : EventWriter) : (s.withEvents e).engine = s.engine := rfl
@[simp] theorem State.withEvents_events (s : State) (e : EventWriter) : (s.withEvents e).events = e := rfl
@[simp] theorem State.withEvents_regs (s : State) (e : EventWriter) : (s.withEvents e).regs = s.regs := rfl
@[simp] theorem State.withEvents_resetLow (s : State) (e : EventWriter) : (s.withEvents e).resetLow = s.resetLow := rfl
@[simp] theorem State.withEvents_lineActive (s : State) (e : EventWriter) : (s.withEvents e).lineActive = s.lineActive := rfl
@[simp] theorem State.withEvents_accessCount (s : State) (e : EventWriter) : (s.withEvents e).accessCount = s.accessCount := rfl
@[simp] theorem State.withEvents_freeCount (s : State) (e : EventWriter) : (s.withEvents e).freeCount = s.freeCount := rfl
@[simp] theorem State.withEvents_pending (s : State) (e : EventWriter) : (s.withEvents e).pending = s.pending := rfl

/-! ### withRegs -/

@[simp] theorem State.withRegs_slots (s : State) (g : Registers) : (s.withRegs g).slots = s.slots := rfl
@[simp] theorem State.withRegs_filingCounter (s : State) (g : Registers) : (s.withRegs g).filingCounter = s.filingCounter := rfl
@[simp] theorem State.withRegs_claims (s : State) (g : Registers) : (s.withRegs g).claims = s.claims := rfl
@[simp] theorem State.withRegs_filing (s : State) (g : Registers) : (s.withRegs g).filing = s.filing := rfl
@[simp] theorem State.withRegs_line (s : State) (g : Registers) : (s.withRegs g).line = s.line := rfl
@[simp] theorem State.withRegs_ring (s : State) (g : Registers) : (s.withRegs g).ring = s.ring := rfl
@[simp] theorem State.withRegs_sched (s : State) (g : Registers) : (s.withRegs g).sched = s.sched := rfl
@[simp] theorem State.withRegs_engine (s : State) (g : Registers) : (s.withRegs g).engine = s.engine := rfl
@[simp] theorem State.withRegs_events (s : State) (g : Registers) : (s.withRegs g).events = s.events := rfl
@[simp] theorem State.withRegs_regs (s : State) (g : Registers) : (s.withRegs g).regs = g := rfl
@[simp] theorem State.withRegs_resetLow (s : State) (g : Registers) : (s.withRegs g).resetLow = s.resetLow := rfl
@[simp] theorem State.withRegs_lineActive (s : State) (g : Registers) : (s.withRegs g).lineActive = s.lineActive := rfl
@[simp] theorem State.withRegs_accessCount (s : State) (g : Registers) : (s.withRegs g).accessCount = s.accessCount := rfl
@[simp] theorem State.withRegs_freeCount (s : State) (g : Registers) : (s.withRegs g).freeCount = s.freeCount := rfl
@[simp] theorem State.withRegs_pending (s : State) (g : Registers) : (s.withRegs g).pending = s.pending := rfl

/-! ### withPending -/

@[simp] theorem State.withPending_slots (s : State) (q : List Instr) : (s.withPending q).slots = s.slots := rfl
@[simp] theorem State.withPending_filingCounter (s : State) (q : List Instr) : (s.withPending q).filingCounter = s.filingCounter := rfl
@[simp] theorem State.withPending_claims (s : State) (q : List Instr) : (s.withPending q).claims = s.claims := rfl
@[simp] theorem State.withPending_filing (s : State) (q : List Instr) : (s.withPending q).filing = s.filing := rfl
@[simp] theorem State.withPending_line (s : State) (q : List Instr) : (s.withPending q).line = s.line := rfl
@[simp] theorem State.withPending_ring (s : State) (q : List Instr) : (s.withPending q).ring = s.ring := rfl
@[simp] theorem State.withPending_sched (s : State) (q : List Instr) : (s.withPending q).sched = s.sched := rfl
@[simp] theorem State.withPending_engine (s : State) (q : List Instr) : (s.withPending q).engine = s.engine := rfl
@[simp] theorem State.withPending_events (s : State) (q : List Instr) : (s.withPending q).events = s.events := rfl
@[simp] theorem State.withPending_regs (s : State) (q : List Instr) : (s.withPending q).regs = s.regs := rfl
@[simp] theorem State.withPending_resetLow (s : State) (q : List Instr) : (s.withPending q).resetLow = s.resetLow := rfl
@[simp] theorem State.withPending_lineActive (s : State) (q : List Instr) : (s.withPending q).lineActive = s.lineActive := rfl
@[simp] theorem State.withPending_accessCount (s : State) (q : List Instr) : (s.withPending q).accessCount = s.accessCount := rfl
@[simp] theorem State.withPending_freeCount (s : State) (q : List Instr) : (s.withPending q).freeCount = s.freeCount := rfl
@[simp] theorem State.withPending_pending (s : State) (q : List Instr) : (s.withPending q).pending = q := rfl

/-! ### withSlot -/

@[simp] theorem State.withSlot_slots (s : State) (k : SlotId) (x : Slot) : (s.withSlot k x).slots = s.slots.set k x := rfl
@[simp] theorem State.withSlot_filingCounter (s : State) (k : SlotId) (x : Slot) : (s.withSlot k x).filingCounter = s.filingCounter := rfl
@[simp] theorem State.withSlot_claims (s : State) (k : SlotId) (x : Slot) : (s.withSlot k x).claims = s.claims := rfl
@[simp] theorem State.withSlot_filing (s : State) (k : SlotId) (x : Slot) : (s.withSlot k x).filing = s.filing := rfl
@[simp] theorem State.withSlot_line (s : State) (k : SlotId) (x : Slot) : (s.withSlot k x).line = s.line := rfl
@[simp] theorem State.withSlot_ring (s : State) (k : SlotId) (x : Slot) : (s.withSlot k x).ring = s.ring := rfl
@[simp] theorem State.withSlot_sched (s : State) (k : SlotId) (x : Slot) : (s.withSlot k x).sched = s.sched := rfl
@[simp] theorem State.withSlot_engine (s : State) (k : SlotId) (x : Slot) : (s.withSlot k x).engine = s.engine := rfl
@[simp] theorem State.withSlot_events (s : State) (k : SlotId) (x : Slot) : (s.withSlot k x).events = s.events := rfl
@[simp] theorem State.withSlot_regs (s : State) (k : SlotId) (x : Slot) : (s.withSlot k x).regs = s.regs := rfl
@[simp] theorem State.withSlot_resetLow (s : State) (k : SlotId) (x : Slot) : (s.withSlot k x).resetLow = s.resetLow := rfl
@[simp] theorem State.withSlot_lineActive (s : State) (k : SlotId) (x : Slot) : (s.withSlot k x).lineActive = s.lineActive := rfl
@[simp] theorem State.withSlot_accessCount (s : State) (k : SlotId) (x : Slot) : (s.withSlot k x).accessCount = s.accessCount := rfl
@[simp] theorem State.withSlot_freeCount (s : State) (k : SlotId) (x : Slot) : (s.withSlot k x).freeCount = s.freeCount := rfl
@[simp] theorem State.withSlot_pending (s : State) (k : SlotId) (x : Slot) : (s.withSlot k x).pending = s.pending := rfl

/-! ### withOpenList -/

@[simp] theorem State.withOpenList_slots (s : State) (l : List Entry) : (s.withOpenList l).slots = s.slots := rfl
@[simp] theorem State.withOpenList_filingCounter (s : State) (l : List Entry) : (s.withOpenList l).filingCounter = s.filingCounter := rfl
@[simp] theorem State.withOpenList_claims (s : State) (l : List Entry) : (s.withOpenList l).claims = s.claims := rfl
@[simp] theorem State.withOpenList_filing (s : State) (l : List Entry) : (s.withOpenList l).filing = s.filing := rfl
@[simp] theorem State.withOpenList_line (s : State) (l : List Entry) : (s.withOpenList l).line = s.line := rfl
@[simp] theorem State.withOpenList_ring (s : State) (l : List Entry) : (s.withOpenList l).ring = s.ring := rfl
@[simp] theorem State.withOpenList_sched (s : State) (l : List Entry) : (s.withOpenList l).sched = s.sched := rfl
@[simp] theorem State.withOpenList_engine (s : State) (l : List Entry) : (s.withOpenList l).engine = { s.engine with openList := l } := rfl
@[simp] theorem State.withOpenList_events (s : State) (l : List Entry) : (s.withOpenList l).events = s.events := rfl
@[simp] theorem State.withOpenList_regs (s : State) (l : List Entry) : (s.withOpenList l).regs = s.regs := rfl
@[simp] theorem State.withOpenList_resetLow (s : State) (l : List Entry) : (s.withOpenList l).resetLow = s.resetLow := rfl
@[simp] theorem State.withOpenList_lineActive (s : State) (l : List Entry) : (s.withOpenList l).lineActive = s.lineActive := rfl
@[simp] theorem State.withOpenList_accessCount (s : State) (l : List Entry) : (s.withOpenList l).accessCount = s.accessCount := rfl
@[simp] theorem State.withOpenList_freeCount (s : State) (l : List Entry) : (s.withOpenList l).freeCount = s.freeCount := rfl
@[simp] theorem State.withOpenList_pending (s : State) (l : List Entry) : (s.withOpenList l).pending = s.pending := rfl

/-! ### withNoticeList -/

@[simp] theorem State.withNoticeList_slots (s : State) (l : List SlotId) : (s.withNoticeList l).slots = s.slots := rfl
@[simp] theorem State.withNoticeList_filingCounter (s : State) (l : List SlotId) : (s.withNoticeList l).filingCounter = s.filingCounter := rfl
@[simp] theorem State.withNoticeList_claims (s : State) (l : List SlotId) : (s.withNoticeList l).claims = s.claims := rfl
@[simp] theorem State.withNoticeList_filing (s : State) (l : List SlotId) : (s.withNoticeList l).filing = s.filing := rfl
@[simp] theorem State.withNoticeList_line (s : State) (l : List SlotId) : (s.withNoticeList l).line = s.line := rfl
@[simp] theorem State.withNoticeList_ring (s : State) (l : List SlotId) : (s.withNoticeList l).ring = s.ring := rfl
@[simp] theorem State.withNoticeList_sched (s : State) (l : List SlotId) : (s.withNoticeList l).sched = s.sched := rfl
@[simp] theorem State.withNoticeList_engine (s : State) (l : List SlotId) : (s.withNoticeList l).engine = s.engine := rfl
@[simp] theorem State.withNoticeList_events (s : State) (l : List SlotId) : (s.withNoticeList l).events = { s.events with noticeList := l } := rfl
@[simp] theorem State.withNoticeList_regs (s : State) (l : List SlotId) : (s.withNoticeList l).regs = s.regs := rfl
@[simp] theorem State.withNoticeList_resetLow (s : State) (l : List SlotId) : (s.withNoticeList l).resetLow = s.resetLow := rfl
@[simp] theorem State.withNoticeList_lineActive (s : State) (l : List SlotId) : (s.withNoticeList l).lineActive = s.lineActive := rfl
@[simp] theorem State.withNoticeList_accessCount (s : State) (l : List SlotId) : (s.withNoticeList l).accessCount = s.accessCount := rfl
@[simp] theorem State.withNoticeList_freeCount (s : State) (l : List SlotId) : (s.withNoticeList l).freeCount = s.freeCount := rfl
@[simp] theorem State.withNoticeList_pending (s : State) (l : List SlotId) : (s.withNoticeList l).pending = s.pending := rfl

/-! ### setRefused -/

@[simp] theorem State.setRefused_slots (s : State) : (s.setRefused).slots = s.slots := rfl
@[simp] theorem State.setRefused_filingCounter (s : State) : (s.setRefused).filingCounter = s.filingCounter := rfl
@[simp] theorem State.setRefused_claims (s : State) : (s.setRefused).claims = s.claims := rfl
@[simp] theorem State.setRefused_filing (s : State) : (s.setRefused).filing = s.filing := rfl
@[simp] theorem State.setRefused_line (s : State) : (s.setRefused).line = s.line := rfl
@[simp] theorem State.setRefused_ring (s : State) : (s.setRefused).ring = s.ring := rfl
@[simp] theorem State.setRefused_sched (s : State) : (s.setRefused).sched = s.sched := rfl
@[simp] theorem State.setRefused_engine (s : State) : (s.setRefused).engine = s.engine := rfl
@[simp] theorem State.setRefused_events (s : State) : (s.setRefused).events = s.events := rfl
@[simp] theorem State.setRefused_regs (s : State) : (s.setRefused).regs = { s.regs with indexRefused := true } := rfl
@[simp] theorem State.setRefused_resetLow (s : State) : (s.setRefused).resetLow = s.resetLow := rfl
@[simp] theorem State.setRefused_lineActive (s : State) : (s.setRefused).lineActive = s.lineActive := rfl
@[simp] theorem State.setRefused_accessCount (s : State) : (s.setRefused).accessCount = s.accessCount := rfl
@[simp] theorem State.setRefused_freeCount (s : State) : (s.setRefused).freeCount = s.freeCount := rfl
@[simp] theorem State.setRefused_pending (s : State) : (s.setRefused).pending = s.pending := rfl

/-! ### await -/

@[simp] theorem State.await_slots (s : State) (w : Option Waiting) : (s.await w).slots = s.slots := rfl
@[simp] theorem State.await_filingCounter (s : State) (w : Option Waiting) : (s.await w).filingCounter = s.filingCounter := rfl
@[simp] theorem State.await_claims (s : State) (w : Option Waiting) : (s.await w).claims = s.claims := rfl
@[simp] theorem State.await_filing (s : State) (w : Option Waiting) : (s.await w).filing = s.filing := rfl
@[simp] theorem State.await_line (s : State) (w : Option Waiting) : (s.await w).line = { s.line with waiting := w } := rfl
@[simp] theorem State.await_ring (s : State) (w : Option Waiting) : (s.await w).ring = s.ring := rfl
@[simp] theorem State.await_sched (s : State) (w : Option Waiting) : (s.await w).sched = s.sched := rfl
@[simp] theorem State.await_engine (s : State) (w : Option Waiting) : (s.await w).engine = s.engine := rfl
@[simp] theorem State.await_events (s : State) (w : Option Waiting) : (s.await w).events = s.events := rfl
@[simp] theorem State.await_regs (s : State) (w : Option Waiting) : (s.await w).regs = s.regs := rfl
@[simp] theorem State.await_resetLow (s : State) (w : Option Waiting) : (s.await w).resetLow = s.resetLow := rfl
@[simp] theorem State.await_lineActive (s : State) (w : Option Waiting) : (s.await w).lineActive = s.lineActive := rfl
@[simp] theorem State.await_accessCount (s : State) (w : Option Waiting) : (s.await w).accessCount = s.accessCount := rfl
@[simp] theorem State.await_freeCount (s : State) (w : Option Waiting) : (s.await w).freeCount = s.freeCount := rfl
@[simp] theorem State.await_pending (s : State) (w : Option Waiting) : (s.await w).pending = s.pending := rfl

end Sys2Proof.Machine
end

