-- ==== Sys2Proof/Tests/Slice0.lean ====
section
/-! SUPPORT. The model's own tests: ill-formed commands refused, the manual's worked values, one small step of each
family, and for every statement with hypotheses a state that meets them. -/

namespace Sys2Proof.Tests

open Sys2Proof.Machine

/-! ### Small states -/

/-- The part after power-on reset. -/
def s0 : State := State.reset

/-- The engine RUNNING, rings of 8 command records and 32 event records. -/
def running : State :=
  { s0 with engine.state := .running, engine.run := true, regs.cmdSize := 3, regs.evtSize := 5 }

/-- An open entry. -/
def entry (code : Byte) (slot : Option SlotId) (kind : EntryKind) (state : EntryState) : Entry :=
  { index := 0, tag := 7, code := code, slot := slot, kind := kind, state := state }

/-- RUNNING with one command taken and checked, its claim at the slot table when it does slot work. -/
def taken (c : Command) : State :=
  { running with
    engine.openList := [entry c.code.byte c.slot .immediate .taking]
    engine.credits := 1
    engine.checked := some c
    claims := if c.usesTable then [.command] else [] }

/-- A step answers this next state. -/
def goesTo (o : Host.Outcome State Fault Refusal) (t : State) : Bool :=
  match o with
  | .next u => decide (u = t)
  | _ => false

/-- A command is checked, and its slot work has its turn at the slot table. -/
def ready (s : State) (c : Command) : Bool := decide (s.engine.checked = some c) && s.turn .command

/-- A slot in service with a role, and its flags. -/
def slot (role : Role) (fresh pending : Bool) : Slot :=
  { Slot.powerOn with
    inService := true, role := role, key := 0x41A000, fresh := fresh, sendPending := pending, notify := true
    source := if fresh then some 3 else none
    filingNumber := if fresh then some 1 else none }

/-- A state with slot 5 replaced. -/
def withSlot5 (s : State) (x : Slot) : State := s.withSlot 5 x

/-- A link at own address 5, with a live map, in a link state. -/
def link (l : LinkState) (map : BitVec 32) (awaited : Option Addr) : State :=
  { running with
    ring.link := l, ring.ownAddress := 5, ring.liveMap := map, ring.awaited := awaited
    ring.inviteCursor := 6, ring.silence := .running 9, line.receiver := .hunting
    ring.lastCondition := conditionOf l (successorOf 5 map), ring.lastSuccessor := successorOf 5 map }

/-- Addresses 5 and 9 marked: the successor of 5 is 9. -/
def ring59 : BitVec 32 := 0x220

/-- Only address 5 marked: the part is alone. -/
def ring5 : BitVec 32 := 0x20

/-- The part holds the token. -/
def holding (map : BitVec 32) : State :=
  { link .holding map none with sched.holding := true, sched.sendingOpen := true, sched.framesLeft := 4 }

/-- A request whose start time has come: 6 bt have passed. -/
def waiting (kind : WaitKind) : Waiting := { kind := kind, gap := 6, elapsed := 240 }

/-- A request whose start time has come, waiting. -/
def waits (s : State) (kind : WaitKind) : State := { s with line.waiting := some (waiting kind) }

/-- An activity is on the line, and a frame is being assembled. -/
def hearing (s : State) : State := { s with line.receiver := .assembling }

/-- A frame of the part has been sent to its end. -/
def sent (s : State) : State := { s with line.txClocks := 10080 }

/-- A frame of slot 5 in flight. -/
def slotFrame : Snapshot := { slot := 5, key := 0x41A000, body := .solicit }

/-- An event write in flight, access 7, unanswered for 2 ms. -/
def writing (source : EventSource) : State :=
  { running with
    accessCount := 8
    events.write := some
      { access := 7, address := 0, record := List.replicate 32 0, source := source, clocks := 80000 } }

/-- A command read in flight, access 7, unanswered for 2 ms. -/
def reading : State :=
  { running with
    accessCount := 8
    engine.openList := [Entry.taken 0], engine.credits := 1
    engine.cmdRead := some { access := 7, index := 0, address := 0, phase := true, clocks := 80000 } }

/-- A done entry. -/
def doneEntry : Entry := entry 0x01 none .immediate (doneWith .ok)

/-- A STORE of all three groups into a slot. -/
def storeAll (k : SlotId) (inService send : Bool) : StoreOperands :=
  { slot := k
    setup := some
      { inService := inService, role := .publish, key := 0x010203, mask := 0, maskInUse := false, depotEnd := false }
    behaviour := some { answer := true, notify := false, keepFirst := true }
    content := some { length := 16, bytes := List.replicate 16 0xAB }
    clearStatus := false, sendAfter := send }

/-- A STORE of no group. -/
def storeNone (k : SlotId) (clear send : Bool) : StoreOperands :=
  { slot := k, setup := none, behaviour := none, content := none, clearStatus := clear, sendAfter := send }

/-- LINK_START operands at the ends of their ranges. -/
def linkOptions : LinkOptions :=
  { ownAddress := 31, divider := 10, budget := 15, inviteInterval := 255, listenOnly := true, selfFiling := true }

/-! ### Well-formedness: each check refuses an ill-formed command -/

theorem test_payload_17_refused : ¬ WellFormed (.dataFrame 3 0 (List.replicate 17 0)) := by decide
theorem test_payload_16_admitted : WellFormed (.dataFrame 3 0 (List.replicate 16 0)) := by decide
theorem test_token_32_refused : ¬ WellFormed (.tokenFrame 3 32) := by decide
theorem test_invite_32_refused : ¬ WellFormed (.inviteFrame 3 32) := by decide
theorem test_join_32_refused : ¬ WellFormed (.joinFrame 3 32) := by decide
theorem test_join_31_admitted : WellFormed (.joinFrame 3 31) := by decide
theorem test_record_63_refused : ¬ WellFormed (.takeEnd 0 (List.replicate 63 0)) := by decide
theorem test_record_64_admitted : WellFormed (.takeEnd 0 (List.replicate 64 0)) := by decide
theorem test_offset_128_refused : ¬ WellFormed (.registerWriteOther 128 .byte) := by decide
theorem test_writable_word_refused : ¬ WellFormed (.registerWriteOther 0x40 .word) := by decide
theorem test_writable_half_admitted : WellFormed (.registerWriteOther 0x40 .half) := by decide
theorem test_read_only_admitted : WellFormed (.registerWriteOther 0x20 .word) := by decide
theorem test_command_long_store_refused :
    Command.wf (.store { storeNone 0 false false with content := some ⟨17, List.replicate 16 0⟩ }) = false := by decide
theorem test_command_divider_9_refused :
    Command.wf (.linkStart { linkOptions with divider := 9 }) = false := by decide
theorem test_frame_long_payload_refused : Frame.wf (.data 1 2 (List.replicate 17 0)) = false := by decide
theorem test_frame_extension_20_refused : Frame.wf (.extension true 1 (List.replicate 20 0)) = false := by decide

/-! ### The manual's worked values -/

/-- R31: the check over "123456789" is 0x29B1. -/
theorem test_frame_check : frameCheck [0x31, 0x32, 0x33, 0x34, 0x35, 0x36, 0x37, 0x38, 0x39] = 0x29B1 := by decide +kernel

/-- Section 10.2: a NOP with phase 1 and tag 7 has check word 0x5B5C. -/
theorem test_nop_record : Command.record .nop true 7 =
    [0x01, 0x01, 0x5C, 0x5B, 0x07, 0x00] ++ List.replicate 58 0 := by decide

/-- Table 10-3, a STORE record written out: slot 5, SETUP and CONTENT, PUBLISH, key 0x41A020 (0x20, 0xA0, 0x41), mask
0xFFFF00, three data bytes. -/
theorem test_store_record_read : readOperands .store
    ([0x02, 1, 0, 0, 7, 0, 0x05, 0, 5] ++ List.replicate 7 0
      ++ [0x03, 0x01, 0, 3, 0x20, 0xA0, 0x41, 0, 0x00, 0xFF, 0xFF, 0] ++ List.replicate 4 0 ++ [0xA, 0xB, 0xC]
      ++ List.replicate 29 0) =
    some (.store
      { slot := 5
        setup := some { inService := true, role := .publish, key := 0x41A020, mask := 0xFFFF00, maskInUse := true
                        depotEnd := false }
        behaviour := none
        content := some { length := 3, bytes := [0xA, 0xB, 0xC] ++ List.replicate 13 0 }
        clearStatus := false, sendAfter := false }) := by decide

/-- Table 10-4, a LINK_START record written out: address 31, divider 320, budget 4, invite interval 16, self-filing. -/
theorem test_link_start_record_read : readOperands .linkStart
    ([0x10, 1, 0, 0, 7, 0, 0x02, 0] ++ List.replicate 8 0 ++ [31, 0, 0x40, 0x01, 4, 16] ++ List.replicate 42 0) =
    some (.linkStart
      { ownAddress := 31, divider := 320, budget := 4, inviteInterval := 16, listenOnly := false
        selfFiling := true }) := by decide

/-- A TOKEN from 2 to 5: 0x62 0x05 before its check (R29), and it is received as sent. -/
theorem test_token_bytes : (Frame.token 2 5).body = [0x62, 0x05] := by decide
theorem test_token_received : (receive ((Frame.token 2 5).levels ++ [true])).arrival = some (.tokenFrame 2 5) := by decide +kernel

/-- Kind codes 0 and 7 are extension frames and arrive as foreign frames (R30). -/
theorem test_extension_received :
    (receive ((Frame.extension false 2 [0xAA]).levels ++ [true])).arrival = some .foreignFrame := by decide +kernel

/-- A frame cut short by the idle level is garbled (R34). -/
theorem test_cut_short : receive ((Frame.claim 2).levels.take 30 ++ List.replicate 12 true) =
    .garbled .idleMidFrame := by decide

/-- Section 2.3: a TOKEN lasts 62 bt, a DATA frame with 16 bytes 252 bt. -/
theorem test_durations : (Frame.token 2 5).duration = 62 ∧ (Frame.claim 2).duration = 52 ∧
    (Frame.solicit 2 0).duration = 82 ∧ (Frame.data 2 0 (List.replicate 16 0)).duration = 252 := by decide

/-- R66: with 5 and 9 marked the successor is 9 and 6 to 8 are the gap; alone, every other address is. -/
theorem test_successor : (link .member ring59 none).ring.successor = some 9 ∧
    (link .member ring59 none).ring.inGap 8 = true ∧ (link .member ring59 none).ring.inGap 9 = false ∧
    (link .member ring5 none).ring.successor = none ∧ (link .member ring5 none).ring.inGap 4 = true ∧
    (link .member ring5 none).ring.inGap 5 = false := by decide

/-- STATUS, R164: RUNNING, no fault, IN_RING, index-refused. -/
theorem test_status_word :
    (State.setRefused (link .member ring59 none)).readRegister 8 .word = some 0x12001 := by decide

/-! ### One small step of each family -/

theorem test_runSet_reports_first_failing_check :
    (match exec .runSet s0 with | .next t => some (t.engine.state, t.engine.fault) | _ => none) =
      some (.stopped, .badConfig .cmdSize) := by decide
theorem test_takeBegin_reads_the_record_at_head :
    (match exec .takeBegin { running with engine.head := 2, regs.cmdBaseLo := 0x1000, regs.cmdTail := 3 } with
      | .next t => t.engine.cmdRead.map (·.address) | _ => none) = some 0x1080 := by decide
theorem test_takeEnd_of_zeros_is_stale_or_bad :
    (match exec (.takeEnd 7 (List.replicate 64 0)) reading with
      | .next t => (t.engine.head, t.engine.openList.map Entry.completion) | _ => (9, [])) =
      (1, [some ⟨.stale, .none⟩]) := by decide
theorem test_nop_is_done :
    (match exec .nop (taken .nop) with | .next t => t.engine.openList.map Entry.completion | _ => []) =
      [some ⟨.ok, .none⟩] := by decide
theorem test_store_sets_slot :
    (match exec .store (taken (.store (storeAll 5 true true))) with
      | .next t => (t.slots[5].inService, t.slots[5].key, t.slots[5].length, t.slots[5].sendPending)
      | _ => (false, 0, 0, false)) = (true, 0x010203, 16, true) := by decide
theorem test_token_starts_a_holding :
    (match exec (.tokenFrame 9 5) (hearing (link .member ring59 none)) with
      | .next t => (t.ring.link, t.sched.framesLeft, t.line.waiting.map (·.gap)) | _ => (.off, 0, none)) =
      (.holding, 4, some 6) := by decide
theorem test_sixth_unheard_withdraws :
    (match exec .responseWindowExpiry
        { link .joining ring59 (some 9) with ring.window := .running 960, ring.unheard := 5 } with
      | .next t => (t.ring.link, t.ring.unheard) | _ => (.off, 0)) = (.withdrawn, 6) := by decide
theorem test_data_is_filed :
    (match exec .fileData { withSlot5 s0 (slot .subscribe false false) with
          filing := some (.data 3 0x41A000 [1, 2]), claims := [.filing] } with
      | .next t => (t.slots[5].length, t.slots[5].fresh, t.filingCounter, t.events.noticeList) | _ => (0, false, 0, [])) =
      (2, true, 1, [5]) := by decide
theorem test_find_sends_the_slot :
    (match exec .findAndSnapshot (waits (withSlot5 (holding ring59) (slot .publish false true)) .claimed) with
      | .next t => (t.sched.cursor, t.sched.snapshot.map (·.slot), t.slots[5].sendPending, t.ldePin)
      | _ => (0, none, true, false)) = (6, some 5, false, true) := by decide
theorem test_completion_is_written :
    (match exec .completionWrite { running with engine.openList := [doneEntry], engine.credits := 1 } with
      | .next t => t.events.write.map (·.record.take 8) | _ => none) = some [1, 1, 0, 0, 7, 0, 1, 0] := by decide
/-- R9: a filing that comes before a FETCH is taken before it, and a find-and-snapshot before both. -/
theorem test_claims_keep_their_order :
    let both : State := { taken (.fetch 5 true) with filing := some (.solicit 3 0), claims := [.filing, .command] }
    let held : State := { both with line.waiting := some (waiting .claimed) }
    goesTo (exec .fetch both) both = true ∧ both.ownRow = some .fileSolicit ∧ held.ownRow = some .findAndSnapshot ∧
      goesTo (exec .fileSolicit held) held = true := by decide
/-- R32: with less than 2 bt of idle line behind it, an active level is not reported; neither is a
glitch, which takes the line active all the same; while the line is active no level starts. -/
theorem test_activity_needs_idle_line :
    let early : State := { link .member ring59 none with line.idleClocks := 79 }
    let rested : State := { link .member ring59 none with line.idleClocks := 80 }
    goesTo (exec (.activityStart 40) early) { early with line.idleClocks := 0, lineActive := 40 } = true ∧
      goesTo (exec (.activityStart 19) rested) { rested with line.idleClocks := 0, lineActive := 19 } = true ∧
      goesTo (exec (.activityStart 40) { rested with lineActive := 1 }) { rested with lineActive := 1 } = true := by
  decide
/-- R32: the 2 bt are counted from the line's return to the idle level, not from the garbled arrival. -/
theorem test_idle_counted_from_the_return :
    let held : State := { hearing (link .member ring59 none) with lineActive := 2 }
    let clock (s : State) : State := match step s with | .next t => t | _ => s
    (match exec .garbledFrame held with
      | .next t => [t, clock t, clock (clock t), clock (clock (clock t))].map fun s => (s.lineActive, s.line.idleClocks)
      | _ => []) = [(2, 0), (1, 0), (0, 0), (0, 1)] := by decide
/-- R86: a stop taken in INVITING after a garbled arrival 3 bt after the INVITE's end has its TOKEN 4 bt after that end,
1 bt from now; one taken later has it at once. -/
theorem test_stop_token_waits_out_the_gap :
    let stop (n : Nat) : State := { link .inviting ring59 (some 6) with
      line.gapClocks := n, line.waiting := some { kind := .token, gap := 4, elapsed := 0 }
      engine.checked := some .linkStop, engine.openList := [entry 0x11 none .immediate .taking] }
    let due (n : Nat) : Option Bool := match exec .linkStop (stop n) with
      | .next t => t.line.waiting.map (Waiting.due t.line.divider)
      | _ => none
    due 120 = some false ∧ due 159 = some false ∧ due 160 = some true := by decide
/-- R166: the answer of a read that timed out does not end the read after it. -/
theorem test_late_answer_is_ignored : goesTo (exec (.takeEnd 6 (List.replicate 64 0)) reading) reading = true ∧
    goesTo (exec (.eventWriteDone 6) (writing .notice)) (writing .notice) = true := by decide
/-- R143: the filing counter read after a filing that came between two reads of a MAP_READ. -/
theorem test_filing_between_map_reads :
    let first : State := { taken .mapRead with
      engine.mapReads := { ring := some s0.ring.copy, counter := none, cursor := none }, filingCounter := 9 }
    (match exec (.mapRead .rest) first with | .next t => t.engine.openList.map Entry.completion | _ => []) =
      [some ⟨.ok, .mapRead s0.ring.copy 9 0⟩] := by decide
theorem test_clock_counts :
    (match step (link .member ring59 none) with | .next t => t.ring.silence | _ => .stopped) = .running 10 := by decide

/-! ### Witnesses: for each statement with hypotheses, states and operands that meet them, clause by clause -/

/-- RESET low; a row of the part's own due; and none due. -/
theorem witness_EmptyQueueIsOwnRowOrClock :
    let busyPart : State := { taken .nop with pending := [] }
    ((State.powerOn s0).pending = [] ∧ (State.powerOn s0).resetLow = true) ∧
    (busyPart.pending = [] ∧ busyPart.resetLow = false ∧ ∃ c, OwnRow c ∧ busyPart.rowDue c) ∧
    (s0.pending = [] ∧ s0.resetLow = false ∧ ∀ c, OwnRow c → ¬ s0.rowDue c) := by
  refine ⟨by decide, ⟨by decide, by decide, .nop, .nop, ?_⟩, by decide, by decide, ?_⟩
  · delta State.rowDue; decide
  · exact State.not_due_of_ownRow (by decide) (by decide)

/-- A row of each kind that is not due: an expiry before its time, an answer for another access, slot work out of its
turn, a frame before an activity start. -/
theorem witness_RowsNotDueChangeNothing :
    ¬ (link .member ring59 none).rowDue .silenceTimeout ∧ ¬ reading.rowDue (.takeEnd 6 []) ∧
    ¬ State.rowDue { taken .tableClear with claims := [.notice, .command] } .tableClear ∧
    ¬ (link .member ring59 none).rowDue .garbledFrame := by
  refine ⟨?_, ?_, by delta State.rowDue; decide, by delta State.rowDue; decide⟩
  · rintro ⟨c, h, hc⟩; obtain rfl := Timer.running.inj h; exact absurd hc (by decide)
  · rintro ⟨c, h, hc⟩; obtain rfl := Option.some.inj h; exact absurd hc (by decide)

theorem witness_PowerOnReset : (ResetCause.supplyRise = .supplyRise) ∧
    ∃ n, 10 ≤ n ∧ ResetCause.pinLow 10 = .pinLow n := ⟨rfl, 10, by decide, rfl⟩

/-- Each kind of frame in flight, and none; RESET high and low. That a short pulse resets or does not is a free value,
one of the two clauses for it applies. -/
theorem witness_ResetPin :
    let sending : State := { holding ring59 with sched.snapshot := some slotFrame }
    let claiming : State := { holding ring59 with line.ringFrame := some ⟨.claim, 0⟩ }
    (sending.sched.snapshot = some slotFrame ∧ sending.transmitting = true) ∧
    (claiming.sched.snapshot = none ∧ claiming.line.ringFrame = some ⟨.claim, 0⟩) ∧
    (s0.sched.snapshot = none ∧ s0.line.ringFrame = none ∧ s0.resetLow = false ∧ s0.transmitting = false) ∧
    (sending.frameInFlight = some (.solicit 5 0x41A000) ∧ s0.frameInFlight = none) ∧
    (State.powerOn s0).resetLow = true ∧ RegisterWrite .runSet ∧
    (ResetCause.pinLow 10 = .pinLow 10 ∧ 10 ≤ 10) ∧ 9 < 10 ∧
    (Config.shortPulseResets 0 = true ∨ Config.shortPulseResets 0 = false) :=
  ⟨by decide, by decide, by decide, by decide, by decide, .runSet, by decide, by decide, Bool.eq_false_or_eq_true _⟩

theorem witness_DeviceReset : s0.resetLow = false ∧ BitVec.getLsbD (4 : Word) 2 = true := by decide

theorem witness_EngineReset : (writing .notice).resetLow = false ∧ reading.resetLow = false := by decide

/-- The four CONTROL values, and other writes at the ends of the window: a register's byte, a read-only register, the
last byte of the window. -/
theorem witness_HostWrites : s0.resetLow = false ∧ BitVec.getLsbD (7 : Word) 2 = true ∧
    (BitVec.getLsbD (3 : Word) 2 = false ∧ BitVec.getLsbD (3 : Word) 1 = true) ∧
    (BitVec.getLsbD (1 : Word) 2 = false ∧ BitVec.getLsbD (1 : Word) 1 = false ∧ BitVec.getLsbD (1 : Word) 0 = true) ∧
    (BitVec.getLsbD (0 : Word) 2 = false ∧ BitVec.getLsbD (0 : Word) 1 = false ∧ BitVec.getLsbD (0 : Word) 0 = false) ∧
    WellFormed (.registerWriteOther 0x40 .byte) ∧ WellFormed (.registerWriteOther 0 .word) ∧
    WellFormed (.registerWriteOther 127 .byte) := by decide

/-- Each engine state, with settings that pass every check and settings whose first failing check is CMD_SIZE. -/
theorem witness_RunBit :
    let ready : State := { running with engine.state := .stopped, engine.run := false }
    let faulted : State := { running with engine.state := .faulted, engine.fault := .cqRead }
    (ready.resetLow = false ∧ ready.engine.state = .stopped ∧ ∀ c, ¬ ready.checkFails c) ∧
    (s0.resetLow = false ∧ s0.engine.state = .stopped ∧ s0.checkFails .cmdSize ∧
      ∀ d : ConfigCause, d.code < ConfigCause.cmdSize.code → ¬ s0.checkFails d) ∧
    (running.resetLow = false ∧ running.engine.state = .running) ∧
    (faulted.resetLow = false ∧ faulted.engine.state = .faulted) := by
  refine ⟨⟨by decide, by decide, ?_⟩, ⟨by decide, by decide, ?_, ?_⟩, by decide, by decide⟩
  · intro c; cases c <;> (unfold State.checkFails; decide)
  · unfold State.checkFails; decide
  · intro d h; cases d <;> first | (unfold State.checkFails; decide) | exact absurd h (by decide)

theorem witness_NotifyRegisterWrites : s0.resetLow = false ∧ BitVec.toNat (4096 : Word) ≤ 4096 ∧
    4096 < BitVec.toNat (4097 : Word) ∧ BitVec.toNat (65535 : Word) ≤ 65535 ∧
    65535 < BitVec.toNat (65536 : Word) := by decide

theorem witness_RegisterReads : s0.resetLow = false ∧ 4 ∣ 0x40 ∧ ¬ 4 ∣ 0x41 ∧ 0x44 ≤ 0x44 := by decide

/-- A ring of 8: 7 and 8; a size out of range: its own value and another. -/
theorem witness_RingRegisterWrites : running.resetLow = false ∧
    (s0.engine.state = .stopped ∧ s0.engine.openList = []) ∧ running.engine.state ≠ .stopped ∧
    (3 ≤ running.regs.cmdSize.toNat ∧ running.regs.cmdSize.toNat ≤ 10) ∧
    BitVec.toNat (7 : Word) < 2 ^ running.regs.cmdSize.toNat ∧
    2 ^ running.regs.cmdSize.toNat ≤ BitVec.toNat (8 : Word) ∧ ¬ 3 ≤ s0.regs.cmdSize.toNat ∧
    BitVec.toNat (0 : Word) = s0.regs.cmdTail ∧ BitVec.toNat (1 : Word) ≠ s0.regs.cmdTail := by decide

/-- Head 30 and tail 2 in a ring of 32: 2 is the last value taken, 3 and 32 are refused. -/
theorem witness_EventHeadWrites :
    let s : State := { running with regs.evtHead := 30, events.tail := 2 }
    let size := 2 ^ s.regs.evtSize.toNat
    s.resetLow = false ∧ (5 ≤ s.regs.evtSize.toNat ∧ s.regs.evtSize.toNat ≤ 12 ∧ s.regs.evtHead < size ∧
      s.events.tail < size) ∧
    (BitVec.toNat (2 : Word) < size ∧
      (BitVec.toNat (2 : Word) + size - s.regs.evtHead) % size ≤ (s.events.tail + size - s.regs.evtHead) % size) ∧
    (s.events.tail + size - s.regs.evtHead) % size < (BitVec.toNat (3 : Word) + size - s.regs.evtHead) % size ∧
    size ≤ BitVec.toNat (32 : Word) ∧ ¬ 5 ≤ s0.regs.evtSize.toNat ∧ BitVec.toNat (0 : Word) = s0.regs.evtHead ∧
    BitVec.toNat (1 : Word) ≠ s0.regs.evtHead := by decide

/-- A take may begin with fifteen entries open and room for one credit more; with head = tail it may not. -/
theorem witness_TakeBegins :
    let s : State := { running with
      regs.cmdTail := 1, engine.openList := List.replicate 15 doneEntry, engine.credits := 30 }
    (s.engine.state = .running ∧ s.engine.cmdRead = none ∧ s.engine.checked = none ∧ s.engine.head ≠ s.regs.cmdTail ∧
      s.engine.openList.length < 16 ∧ s.engine.credits < s.freeEntries ∧ s.events.write = none ∧ s.resetLow = false) ∧
    ¬ running.engine.head ≠ running.regs.cmdTail := by decide

/-- A record refused, one accepted, and a read that ends in FAULTED. -/
theorem witness_TakeEnds :
    let faulted : State := { reading with engine.state := .faulted, engine.fault := .eqWrite }
    let read : CommandRead := { access := 7, index := 0, address := 0, phase := true, clocks := 80000 }
    (reading.engine.cmdRead = some read ∧ (List.replicate 64 (0 : Byte)).length = 64 ∧ reading.engine.state ≠ .faulted ∧
      checkRecord read.phase (List.replicate 64 0) = .error .stale) ∧
    ((Command.record .nop true 7).length = 64 ∧ checkRecord read.phase (Command.record .nop true 7) = .ok .nop) ∧
    (faulted.engine.cmdRead = some read ∧ faulted.engine.state = .faulted) := by
  refine ⟨⟨by decide, by decide, by decide, by decide +kernel⟩, ⟨by decide, by decide +kernel⟩, by decide⟩

/-- A record for each check it fails, each with the checks before it passed: phase, check word, code, slot 64, an option
bit past the last, an operand out of its range; and one that passes them all with slot 63. -/
theorem witness_RecordChecks :
    let checked (r : List Byte) : List Byte :=
      (r.set 2 (lowByte (checkWordOf r))).set 3 (highByte (checkWordOf r))
    let fetch := Command.record (.fetch 63 true) true 7
    let code := checked (fetch.set 0 0x99)
    let high := checked (fetch.set 8 64)
    let option := checked (fetch.set 6 2)
    let divider := checked ((Command.record (.linkStart linkOptions) true 7).set 18 9)
    let phaseOk (r : List Byte) : Bool := (recByte r 1).getLsbD 0
    phaseOk (fetch.set 1 0) = false ∧
    (phaseOk (fetch.set 4 9) = true ∧ checkCorrect (fetch.set 4 9) = false) ∧
    (phaseOk code = true ∧ checkCorrect code = true ∧ commandCode (recByte code 0) = none) ∧
    (phaseOk high = true ∧ checkCorrect high = true ∧ commandCode (recByte high 0) = some .fetch ∧
      CommandCode.namesSlot .fetch = true ∧ 63 < (recByte high 8).toNat) ∧
    (phaseOk option = true ∧ checkCorrect option = true ∧ commandCode (recByte option 0) = some .fetch ∧
      (recByte option 8).toNat ≤ 63 ∧ 2 ^ CommandCode.optionBits .fetch ≤ (recHalf option 3).toNat) ∧
    (phaseOk divider = true ∧ checkCorrect divider = true ∧ commandCode (recByte divider 0) = some .linkStart ∧
      CommandCode.namesSlot .linkStart = false ∧ readOperands .linkStart divider = none) ∧
    (phaseOk fetch = true ∧ checkCorrect fetch = true ∧ commandCode (recByte fetch 0) = some .fetch ∧
      (recByte fetch 8).toNat ≤ 63 ∧ (recHalf fetch 3).toNat < 2 ^ CommandCode.optionBits .fetch ∧
      readOperands .fetch fetch = some (.fetch 63 true)) ∧
    readOperands .store (Command.record (.store (storeAll 63 true true)) true 7) ≠ none ∧
    readOperands .linkStart (Command.record (.linkStart linkOptions) true 7) ≠ none := by
  decide +kernel

theorem witness_CommandReadFails :
    reading.engine.cmdRead = some { access := 7, index := 0, address := 0, phase := true, clocks := 80000 } ∧
      80000 ≤ 80000 := by decide

/-- A STORE with every group and one with none, a LINK_START at the ends of its ranges. -/
theorem witness_CommandRecordRoundTrip : Command.wf (.store (storeAll 63 true true)) = true ∧
    Command.wf (.store (storeNone 0 true false)) = true ∧ Command.wf (.linkStart linkOptions) = true ∧
    Command.wf (.linkStart { linkOptions with divider := 320, budget := 1, inviteInterval := 0 }) = true ∧
    Command.wf .nop = true := by decide

theorem witness_NopRuns : (taken .nop).engine.checked = some .nop := by decide

/-- SLOT_LIVE, NOT_IN_SERVICE, a slot closed, a status cleared, a send after a setup. -/
theorem witness_StoreRuns :
    let live := withSlot5 (taken (.store (storeAll 5 true false))) (slot .subscribe true true)
    let out := taken (.store (storeNone 5 false true))
    let closing := withSlot5 (taken (.store (storeAll 5 false false))) (slot .subscribe true true)
    let clearing := withSlot5 (taken (.store (storeNone 5 true false))) (slot .subscribe true false)
    let sending := taken (.store (storeAll 5 true true))
    (ready live (.store (storeAll 5 true false)) = true ∧ live.slots[5].inService = true) ∧
    (ready out (.store (storeNone 5 false true)) = true ∧ out.slots[5].inService = false) ∧
    (ready closing (.store (storeAll 5 false false)) = true ∧ closing.slots[5].inService = true) ∧
    (ready clearing (.store (storeNone 5 true false)) = true ∧ (storeNone 5 true false).clearStatus = true) ∧
    (ready sending (.store (storeAll 5 true true)) = true ∧ sending.slots[5].inService = false ∧
      (storeAll 5 true true).sendAfter = true) := by decide

theorem witness_FetchRuns : ready (taken (.fetch 63 false)) (.fetch 63 false) = true ∧
    ready (withSlot5 (taken (.fetch 5 true)) (slot .subscribe true false)) (.fetch 5 true) = true := by decide

/-- LIST_FULL with 15 long entries, out of service, no confirm, confirm in OFF and in WITHDRAWN, confirm in LISTEN
with 14 long entries. -/
theorem witness_SendRuns :
    let confirm : Command := .send 5 true
    let up := withSlot5 (taken confirm) (slot .publish false false)
    let long (n : Nat) : List Entry := List.replicate n (entry 4 (some 5) .long .waiting)
    let full : State := { up with engine.openList := long 15 }
    let listening : State := { up with ring.link := .listen, engine.openList := long 14 }
    let quiet := withSlot5 (taken (.send 5 false)) (slot .publish false false)
    (ready full confirm = true ∧ 15 ≤ full.engine.openList.countP fun e => e.kind = .long) ∧
    (ready (taken confirm) confirm = true ∧ (taken confirm).slots[5].inService = false ∧
      ¬ 15 ≤ (taken confirm).engine.openList.countP fun e => e.kind = .long) ∧
    (ready quiet (.send 5 false) = true ∧ quiet.slots[5].inService = true) ∧
    (ready up confirm = true ∧ up.slots[5].inService = true ∧ up.ring.link = .off ∧
      ¬ 15 ≤ up.engine.openList.countP fun e => e.kind = .long) ∧
    (ready listening confirm = true ∧ listening.slots[5].inService = true ∧
      ¬ (listening.ring.link = .off ∨ listening.ring.link = .withdrawn) ∧
      ¬ 15 ≤ listening.engine.openList.countP fun e => e.kind = .long) := by decide

theorem witness_CancelAndTableClearRun :
    let inFlight : State := { taken (.cancel 5) with sched.snapshot := some slotFrame }
    (ready inFlight (.cancel 5) = true ∧ inFlight.sched.snapshot = some slotFrame ∧ slotFrame.slot = 5) ∧
    ready (taken (.cancel 6)) (.cancel 6) = true ∧ (taken (.cancel 6)).sched.snapshot = none ∧
    ready (taken .tableClear) .tableClear = true := by decide

theorem witness_LinkStartRuns :
    let start (l : LinkState) : State := { taken (.linkStart linkOptions) with ring.link := l }
    ((start .off).engine.checked = some (.linkStart linkOptions) ∧ (start .off).ring.link = .off) ∧
    ((start .withdrawn).engine.checked = some (.linkStart linkOptions) ∧ (start .withdrawn).ring.link = .withdrawn) ∧
    ((start .listen).engine.checked = some (.linkStart linkOptions) ∧
      ¬ ((start .listen).ring.link = .off ∨ (start .listen).ring.link = .withdrawn)) := by decide

/-- A LINK_STOP taken in every link state, with and without a frame in flight, a successor, and a stop standing; with 15
long entries open. -/
theorem witness_LinkStopRuns :
    let stop (s : State) : State := { s with
      engine.checked := some .linkStop, engine.openList := [entry 0x11 none .immediate .taking] }
    let full : State := { stop s0 with engine.openList := List.replicate 15 (entry 4 none .long .waiting) }
    let may (s : State) : Bool := decide (s.engine.checked = some .linkStop) &&
      decide (¬ 15 ≤ s.engine.openList.countP fun e => e.kind = .long)
    let go (s : State) : Bool := may s && decide (s.ring.stopRequest = false)
    let framed (s : State) (kind : RingFrameKind) : State := { s with line.ringFrame := some ⟨kind, 9⟩ }
    let joining := link .joining ring59 (some 9)
    let passing := link .passing ring59 (some 9)
    let inviting (map : BitVec 32) := link .inviting map (some 6)
    (full.engine.checked = some .linkStop ∧ 15 ≤ full.engine.openList.countP fun e => e.kind = .long) ∧
    (may (stop s0) = true ∧ (stop s0).ring.link = .off) ∧
    (may (stop { holding ring59 with ring.stopRequest := true }) = true ∧
      (stop { holding ring59 with ring.stopRequest := true }).ring.stopRequest = true) ∧
    (go (stop (link .listen ring5 none)) = true ∧ (stop (link .listen ring5 none)).ring.link = .listen) ∧
    (go (stop (link .member ring59 none)) = true ∧ go (stop (link .withdrawn ring59 none)) = true) ∧
    (go (stop joining) = true ∧ go (stop passing) = true ∧ (stop joining).transmitting = false ∧
      (stop passing).transmitting = false) ∧
    (go (stop (holding ring5)) = true ∧ (stop (holding ring5)).transmitting = false ∧
      (stop (holding ring5)).ring.alone = true) ∧
    (go (stop (inviting ring5)) = true ∧ (stop (inviting ring5)).transmitting = false ∧
      (stop (inviting ring5)).ring.alone = true) ∧
    (go (stop (framed joining .join)) = true ∧ (stop (framed joining .join)).line.ringFrame ≠ none) ∧
    (go (stop (framed passing .token)) = true ∧ go (stop (framed (inviting ring59) .invite)) = true) ∧
    (go (stop { holding ring59 with sched.snapshot := some slotFrame }) = true ∧
      (stop { holding ring59 with sched.snapshot := some slotFrame }).sched.snapshot ≠ none) ∧
    (go (stop (holding ring59)) = true ∧ (stop (holding ring59)).ring.link = .holding ∧
      (stop (holding ring59)).transmitting = false ∧ (stop (holding ring59)).ring.alone = false) ∧
    (go (stop (inviting ring59)) = true ∧ (stop (inviting ring59)).ring.link = .inviting ∧
      (stop (inviting ring59)).transmitting = false ∧ (stop (inviting ring59)).ring.alone = false) := by decide

/-- No read made, and two of the three. -/
theorem witness_MapReadRuns :
    let two : State := { taken .mapRead with
      engine.mapReads := { ring := some s0.ring.copy, counter := some 3, cursor := none } }
    ((taken .mapRead).engine.checked = some .mapRead ∧ (taken .mapRead).engine.mapReads.ring = none) ∧
    two.engine.checked = some .mapRead ∧ two.engine.mapReads.ring ≠ none ∧ two.engine.mapReads.counter ≠ none := by decide

/-- LIST_FULL, no earlier entry, and one earlier entry. -/
theorem witness_BarrierRuns :
    let with_ (l : List Entry) : State := { taken .barrier with engine.openList := l ++ [entry 0x20 none .immediate .taking] }
    let full := with_ (List.replicate 15 (entry 4 none .long .waiting))
    let earlier := with_ [doneEntry]
    (full.engine.checked = some .barrier ∧ 15 ≤ full.engine.openList.countP fun e => e.kind = .long) ∧
    ((taken .barrier).engine.checked = some .barrier ∧
      (¬ 15 ≤ (taken .barrier).engine.openList.countP fun e => e.kind = .long) ∧
      ∀ e ∈ (taken .barrier).engine.openList, e.state = .taking) ∧
    (earlier.engine.checked = some .barrier ∧ (¬ 15 ≤ earlier.engine.openList.countP fun e => e.kind = .long) ∧
      ¬ ∀ e ∈ earlier.engine.openList, e.state = .taking) := by decide

/-- The oldest done entry is the second of three; a link notice with room for it. -/
theorem witness_CompletionAndLinkNoticeWritesBegin :
    let list := [entry 4 none .long .waiting, doneEntry, doneEntry]
    let done : State := { running with engine.openList := list, engine.credits := 3 }
    let notice : LinkNotice := { condition := .inRing, successor := some 9, changes := 255 }
    let linked : State := { running with events.linkNotice := some notice, engine.credits := 30 }
    (done.events.write = none ∧ done.engine.state ≠ .faulted ∧ done.resetLow = false ∧ done.engine.openList[1]? = some doneEntry ∧
      doneEntry.state = .done ⟨.ok, .none⟩ ∧ Entry.completion (entry 4 none .long .waiting) = none) ∧
    (linked.events.linkNotice = some notice ∧ linked.events.write = none ∧ linked.engine.state = .running ∧
      linked.engine.credits < linked.freeEntries ∧ linked.resetLow = false ∧ ∀ e ∈ linked.engine.openList, e.completion = none) := by decide

/-- A slot notice ready; one whose claim's turn comes with a completion ready; and one whose list is empty by then. -/
theorem witness_SlotNoticeWriteBegins :
    let s : State := { withSlot5 running (slot .subscribe true false) with
      events.noticeList := [5, 6], claims := [.notice, .command] }
    let behind : State := { s with engine.openList := [doneEntry], engine.credits := 1 }
    let gone : State := { s with events.noticeList := [] }
    (s.turn .notice = true ∧ s.resetLow = false ∧ s.events.noticeList = 5 :: [6] ∧ s.events.write = none ∧
      s.engine.state = .running ∧ s.engine.credits < s.freeEntries ∧ (∀ e ∈ s.engine.openList, e.completion = none) ∧
      s.events.linkNotice = none) ∧
    (behind.turn .notice = true ∧ behind.resetLow = false ∧ ¬ ∀ e ∈ behind.engine.openList, e.completion = none) ∧
    (gone.turn .notice = true ∧ gone.resetLow = false ∧ gone.events.noticeList = []) := by decide

/-- The write of a notice, and that of a completion at the last entry of the ring, with a BARRIER left first. -/
theorem witness_EventWriteDone :
    let last : State := { writing (.completion 0) with
      engine.openList := [doneEntry, entry 0x20 none .long .waiting], engine.credits := 2, events.tail := 31 }
    (∃ w, (writing .notice).events.write = some w ∧ w.source = .notice) ∧
    (∃ w, last.events.write = some w ∧ w.source = .completion 0) := ⟨⟨_, rfl, rfl⟩, _, rfl, rfl⟩

theorem witness_EventWriteFails : ∃ w, (writing .notice).events.write = some w ∧ 80000 ≤ w.clocks :=
  ⟨_, rfl, by decide⟩

/-- The quiet condition within reach: one event unconsumed and NOTIFY_QUIET at its largest. -/
theorem witness_QuietTimerAndNotifyLine :
    let s : State := { running with events.tail := 1, regs.notifyQuiet := 65535 }
    s.resetLow = false ∧ s.regs.notifyQuiet ≠ 0 ∧ 1 ≤ s.unconsumed := by decide

/-- A completion with each kind of status, and one that carries a FETCH result. -/
theorem witness_EventRecordLayouts : Status.badCheck ≠ .ok ∧ Status.badCheck ≠ .tooLate ∧ Status.badCheck ≠ .sent ∧
    Completion.result ⟨.ok, .none⟩ = .none ∧
    (Completion.status ⟨.ok, .fetch (slot .publish true true)⟩ = .ok ∧
      Completion.result ⟨.ok, .fetch (slot .publish true true)⟩ = .fetch (slot .publish true true)) ∧
    (Completion.status ⟨.tooLate, .cancel true⟩ = .tooLate ∧ Completion.result ⟨.tooLate, .cancel true⟩ = .cancel true) ∧
    (Completion.status ⟨.ok, .mapRead s0.ring.copy 0 63⟩ = .ok ∧
      Completion.result ⟨.ok, .mapRead s0.ring.copy 0 63⟩ = .mapRead s0.ring.copy 0 63) := by decide

/-- 2 bt of idle line and one clock less, an active level of half a bit and one clock less, a line still active, a level
of no clock, and a receiver that assembles. -/
theorem witness_ActivityStartHolds :
    let idle (n : Nat) : State := { link .member ring59 none with line.idleClocks := n }
    let active : State := { idle 80 with lineActive := 1 }
    let goesActive (s : State) (n : Nat) : Prop := s.lineActive = 0 ∧ n ≠ 0
    let hunts (s : State) : Prop := s.line.receiver = .hunting ∧ s.transmitting = false
    let reported (s : State) (n : Nat) : Prop := 2 * s.line.divider ≤ s.line.idleClocks ∧ s.line.divider ≤ 2 * n
    (¬ goesActive active 20 ∧ ¬ goesActive (idle 80) 0) ∧
      (goesActive (idle 80) 20 ∧ hunts (idle 80) ∧ reported (idle 80) 20) ∧
      (goesActive (idle 79) 20 ∧ hunts (idle 79) ∧ ¬ reported (idle 79) 20) ∧
      (goesActive (idle 80) 19 ∧ hunts (idle 80) ∧ ¬ reported (idle 80) 19) ∧
      (goesActive (hearing (idle 80)) 20 ∧ ¬ hunts (hearing (idle 80))) := by decide

/-- A filing request waits for its turn. -/
def busyPath : State := { link .member ring59 none with filing := some (.solicit 9 0), claims := [.filing] }

/-- Every kind of arrival, with the payload and the destination on both sides of their limits. -/
theorem witness_ArrivalMarksSource :
    State.takesArrival (hearing (link .member ring59 none)) (some (.solicit 9 0)) ∧
    (link .member ring59 none).ring.link.runsTimers = true ∧ State.takesArrival (hearing busyPath) none ∧
    ArrivesAs (.dataFrame 9 0 (List.replicate 16 0)) (.content 9) (some (.data 9 0 (List.replicate 16 0))) ∧
    ArrivesAs (.dataFrame 9 0 (List.replicate 17 0)) .garbled none ∧
    ArrivesAs (.solicitFrame 9 0) (.content 9) (some (.solicit 9 0)) ∧
    ArrivesAs (.tokenFrame 9 31) (.token 9 31) none ∧ ArrivesAs (.tokenFrame 9 32) .garbled none ∧
    ArrivesAs (.inviteFrame 9 31) (.invite 9 31) none ∧ ArrivesAs (.inviteFrame 9 32) .garbled none ∧
    ArrivesAs (.joinFrame 9 31) (.join 9 31) none ∧ ArrivesAs (.joinFrame 9 32) .garbled none ∧
    ArrivesAs (.claimFrame 9) (.content 9) none ∧ ArrivesAs .foreignFrame .foreign none ∧
    ArrivesAs .garbledFrame .garbled none :=
  ⟨by decide, by decide, by decide, .data _ _ _ (by decide), .dataLong _ _ _ (by decide), .solicit _ _,
    .token _ _ (by decide), .tokenHigh _ _ (by decide), .invite _ _ (by decide), .inviteHigh _ _ (by decide),
    .join _ _ (by decide), .joinHigh _ _ (by decide), .claim _, .foreign, .garbled⟩

/-- Each link state, with a successor and alone; the unheard count below its limit and at it; a change of condition, a
change of successor, and no change. -/
theorem witness_RingSteps :
    (∀ l, (link l ring59 none).ring.link = l ∧ (link l ring59 none).ring.successor ≠ none ∧
      (link l ring5 none).ring.link = l ∧ (link l ring5 none).ring.successor = none) ∧
    Ring.unheard { s0.ring with unheard := 4 } + 1 < 6 ∧ 6 ≤ Ring.unheard { s0.ring with unheard := 5 } + 1 ∧
    s0.ring.condition = s0.ring.lastCondition ∧ (s0.ring.condition = .inRing → s0.ring.successor = s0.ring.lastSuccessor) ∧
    Ring.condition { s0.ring with link := .listen } ≠ s0.ring.lastCondition ∧
    Ring.successor { (link .member ring59 none).ring with liveMap := 0x260 } ≠
      (link .member ring59 none).ring.lastSuccessor := by
  refine ⟨fun l => ⟨rfl, by cases l <;> decide, rfl, by cases l <;> decide⟩, by decide⟩

/-- A TOKEN and an INVITE for address 5, a TOKEN for another, and a listen-only part. -/
theorem witness_ArrivalsInListenAndMember :
    ArrivesAs (.tokenFrame 9 5) (.token 9 5) none ∧ ArrivesAs (.inviteFrame 9 5) (.invite 9 5) none ∧
    ArrivesAs (.tokenFrame 9 6) (.token 9 6) none ∧
    (State.takesArrival (hearing (link .listen ring5 none)) none ∧ (link .listen ring5 none).ring.stopRequest = false ∧
      (link .listen ring5 none).ring.listenOnly = false ∧ (link .listen ring5 none).ring.ownAddress = 5) ∧
    State.takesArrival (hearing { link .listen ring5 none with ring.listenOnly := true }) none ∧
    (link .listen ring5 none).line.waiting = none :=
  ⟨.token _ _ (by decide), .invite _ _ (by decide), .token _ _ (by decide), by decide, by decide, by decide⟩

/-- The awaited node answers with a TOKEN for the part and with another frame; another node sends each; a frame is
garbled. -/
theorem witness_ArrivalsInJoiningAndPassing :
    ArrivesAs (.tokenFrame 9 5) (.token 9 5) none ∧ ArrivesAs (.tokenFrame 9 6) (.token 9 6) none ∧
    ArrivesAs (.tokenFrame 8 5) (.token 8 5) none ∧ ArrivesAs (.claimFrame 8) (.content 8) none ∧
    ArrivesAs .garbledFrame .garbled none ∧
    (State.takesArrival (hearing (link .joining ring59 (some 9))) none ∧ (link .joining ring59 (some 9)).ring.stopRequest = false) ∧
    (State.takesArrival (hearing (link .passing ring59 (some 9))) none ∧ (link .passing ring59 (some 9)).ring.awaited = some 9) :=
  ⟨.token _ _ (by decide), .token _ _ (by decide), .token _ _ (by decide), .claim _, .garbled, by decide, by decide⟩

/-- In INVITING: the invited node's JOIN and a garbled frame within the window, alone and not, and a garbled frame
outside it. -/
theorem witness_ArrivalsInHoldingAndInviting :
    let window (map : BitVec 32) : State := hearing { link .inviting map (some 6) with ring.window := .held 3 }
    let token := hearing (waits (link .inviting ring59 (some 6)) .token)
    ArrivesAs (.joinFrame 6 5) (.join 6 5) none ∧ ArrivesAs (.tokenFrame 9 5) (.token 9 5) none ∧
    ArrivesAs .garbledFrame .garbled none ∧ ArrivesAs (.claimFrame 9) (.content 9) none ∧
    (State.takesArrival (hearing (holding ring59)) none ∧ (holding ring59).ring.stopRequest = false) ∧
    (State.takesArrival (window ring59) none ∧ (window ring59).ring.window ≠ .stopped ∧ (window ring59).ring.alone = false ∧
      (window ring59).ring.awaited = some 6) ∧
    ((window ring5).ring.alone = true ∧ (window ring5).line.waiting = none) ∧
    (State.takesArrival token none ∧ token.ring.window = .stopped ∧ token.line.waiting = some (waiting .token)) :=
  ⟨.join _ _ (by decide), .token _ _ (by decide), .garbled, .claim _, by decide, by decide, by decide, by decide⟩

theorem witness_ArrivalsUnderStopAndWithdrawn :
    let stopping : State := hearing { link .joining ring59 (some 9) with ring.stopRequest := true }
    ArrivesAs (.claimFrame 9) (.content 9) none ∧ (State.takesArrival stopping none ∧ stopping.ring.stopRequest = true) ∧
    (State.takesArrival (hearing (link .withdrawn ring59 none)) none ∧ (link .withdrawn ring59 none).line.waiting = none) :=
  ⟨.claim _, by decide, by decide⟩

/-- A slot notice that may be written, with no claim for it and with one; and one that may not. -/
theorem witness_ClaimsTakenInOrder :
    let s : State := { withSlot5 running (slot .subscribe true false) with events.noticeList := [5] }
    let claimed : State := { s with claims := [.notice] }
    (s.events.write = none ∧ s.events.noticeList ≠ [] ∧ s.engine.state = .running ∧ s.engine.credits < s.freeEntries ∧
      (∀ e ∈ s.engine.openList, e.completion = none) ∧ s.events.linkNotice = none ∧ .notice ∉ s.claims) ∧
    .notice ∈ claimed.claims ∧ s0.events.noticeList = [] := by decide

theorem witness_KeyMatching :
    let masked (m : Key) : Slot := { slot .subscribe false false with maskInUse := true, mask := m }
    (slot .subscribe false false).maskInUse = false ∧ (masked 0).maskInUse = true ∧ (masked 0).mask = 0 ∧
    (masked 0xFFFFFF).mask = 0xFFFFFF ∧ ((masked 0xFFFF00).key = 0x41A000 ∧ (masked 0xFFFF00).mask = 0xFFFF00) ∧
    (masked 0xFF0000).mask = 0xFF0000 ∧ (masked 0xFFFF00).matchesKey 0x41A0C7 = true := by decide

/-- No slot takes the frame; slot 5 takes it fresh under keep first, and not fresh; a locked member does not. -/
theorem witness_DataFiling :
    let request : FilingRequest := .data 3 0x41A000 [1]
    let first : State := { withSlot5 s0 { slot .subscribe true false with keepFirst := true, depotEnd := true } with
      filing := some request, claims := [.filing] }
    let free : State := { withSlot5 s0 (slot .subscribe false false) with
      filing := some request, claims := [.filing] }
    let locked : State := { withSlot5 s0 (slot .subscribe true false) with
      filing := some request, claims := [.filing, .command] }
    let takes (s : State) (k : SlotId) : Bool := s.slots[k].inService && decide (s.slots[k].role = .subscribe)
      && s.slots[k].matchesKey 0x41A000 && !(!s.slots[k].depotEnd && s.slots[k].fresh)
    (locked.filing = some request ∧ locked.turn .filing = true ∧ ∀ k, takes locked k = false) ∧
    (first.filing = some request ∧ first.turn .filing = true ∧ takes first 5 = true ∧ (∀ j < 5, takes first j = false) ∧
      first.slots[5].fresh = true ∧ first.slots[5].keepFirst = true) ∧
    (free.filing = some request ∧ free.turn .filing = true ∧ takes free 5 = true ∧ (∀ j < 5, takes free j = false) ∧
      free.slots[5].fresh = false) := by decide +kernel

/-- No slot takes the solicit; slot 5 takes it under answer, under notify, and under neither. -/
theorem witness_SolicitFiling :
    let request : FilingRequest := .solicit 3 0x41A000
    let with5 (x : Slot) : State := { withSlot5 s0 x with filing := some request, claims := [.filing] }
    let p := slot .publish false false
    let takes (s : State) (k : SlotId) : Bool := s.slots[k].inService && decide (s.slots[k].role = .publish)
      && s.slots[k].matchesKey 0x41A000
    let first (s : State) : Bool := decide (s.filing = some request) && s.turn .filing && takes s 5 && decide (∀ j < 5, takes s j = false)
    ((with5 (slot .subscribe false false)).filing = some request ∧
      (with5 (slot .subscribe false false)).turn .filing = true ∧ ∀ k, takes (with5 (slot .subscribe false false)) k = false) ∧
    (first (with5 { p with answer := true }) = true ∧ (with5 { p with answer := true }).slots[5].answer = true) ∧
    (first (with5 p) = true ∧ (with5 p).slots[5].answer = false ∧ (with5 p).slots[5].notify = true) ∧
    (first (with5 { p with notify := false }) = true ∧ (with5 { p with notify := false }).slots[5].answer = false ∧
      (with5 { p with notify := false }).slots[5].notify = false) := by decide +kernel

/-- The silence timer in LISTEN and MEMBER, in LISTEN of a listen-only part and in HOLDING; the lone pause. -/
theorem witness_SilenceExpiryAndPauseEnd :
    let full (s : State) : State := { s with ring.silence := .running 5760 }
    let listenOnly : State := { link .listen ring5 none with ring.listenOnly := true }
    let pause : State := { holding ring5 with sched.holding := false, ring.pause := .running 1920 }
    let due (s : State) : Bool := decide (s.ring.silence = .running 5760)
      && decide ((64 + 16 * s.ring.ownAddress.toNat) * s.line.divider ≤ 5760)
    (due (full (link .listen ring5 none)) = true ∧ (link .listen ring5 none).ring.link = .listen ∧
      (link .listen ring5 none).ring.listenOnly = false) ∧
    (due (full (link .member ring59 none)) = true ∧ (link .member ring59 none).ring.link = .member ∧
      (link .member ring59 none).ring.listenOnly = false) ∧
    (due (full listenOnly) = true ∧ listenOnly.ring.link = .listen ∧ listenOnly.ring.listenOnly = true) ∧
    (due (full (holding ring59)) = true ∧ (holding ring59).ring.link ≠ .listen ∧ (holding ring59).ring.link ≠ .member) ∧
    pause.ring.pause = .running 1920 ∧ 48 * pause.line.divider ≤ 1920 := by decide

/-- The window runs in JOINING, INVITING with a successor and alone, and PASSING at each attempt with and without
another successor; and in a state that awaits nothing. -/
theorem witness_ResponseWindowExpiry :
    let w (s : State) : State := { s with ring.window := .running 960 }
    let second (map : BitVec 32) : State := { w (link .passing map (some 9)) with ring.attempt := .second }
    ((w (link .joining ring59 (some 9))).ring.window = .running 960 ∧
      (w (link .joining ring59 (some 9))).ring.link = .joining) ∧
    ((w (link .inviting ring59 (some 6))).ring.window = .running 960 ∧
      (w (link .inviting ring59 (some 6))).ring.link = .inviting ∧
      (w (link .inviting ring59 (some 6))).ring.successor = some 9) ∧
    ((w (link .inviting ring5 (some 6))).ring.link = .inviting ∧
      (w (link .inviting ring5 (some 6))).ring.successor = none) ∧
    ((w (link .passing ring59 (some 9))).ring.link = .passing ∧
      (w (link .passing ring59 (some 9))).ring.awaited = some 9 ∧
      (w (link .passing ring59 (some 9))).ring.attempt = .first) ∧
    ((second 0x620).ring.window = .running 960 ∧ (second 0x620).ring.link = .passing ∧
      (second 0x620).ring.awaited = some 9 ∧ (second 0x620).ring.attempt = .second ∧
      successorOf (second 0x620).ring.ownAddress (clearMark (second 0x620).ring.liveMap 9) = some 10) ∧
    ((second ring59).ring.attempt = .second ∧
      successorOf (second ring59).ring.ownAddress (clearMark (second ring59).ring.liveMap 9) = none) ∧
    ((w (holding ring59)).ring.window = .running 960 ∧ (w (holding ring59)).ring.link.awaits = false) ∧
    24 * (holding ring59).line.divider ≤ 960 ∧ 24 * (link .passing ring59 (some 9)).line.divider ≤ 960 := by decide

/-- An opportunity one clock before its start time, during an activity, and at its time with frames left. -/
theorem witness_SendOpportunity :
    let s := waits (holding ring59) .opportunity
    let early : State := { holding ring59 with line.waiting := some { waiting .opportunity with elapsed := 239 } }
    let open_ (s : State) : Bool := s.sched.holding && s.sched.sendingOpen && !s.sched.stopRequest && !s.transmitting
    (s.line.waiting = some (waiting .opportunity) ∧ open_ s = true ∧ 6 * s.line.divider ≤ 240 ∧
      s.line.receiver ≠ .assembling ∧ s.sched.framesLeft ≠ 0) ∧
    (early.line.waiting = some { waiting .opportunity with elapsed := 239 } ∧ open_ early = true ∧
      239 < 6 * early.line.divider) ∧
    ((hearing s).line.waiting = some (waiting .opportunity) ∧ open_ (hearing s) = true ∧
      (hearing s).line.receiver = .assembling) := by decide

/-- Sending ends at an opportunity with no frames left and at a scan that finds none; an invite is due into a gap, alone
and not; due with an empty gap; and not due. -/
theorem witness_EndOfSending :
    let spent (s : State) (countdown : Nat) : State := waits { s with
      sched.framesLeft := 0, ring.inviteCountdown := countdown } .opportunity
    let ends (s : State) : Bool := decide (s.line.waiting = some (waiting .opportunity)) && s.sched.holding
      && s.sched.sendingOpen && !s.sched.stopRequest && !s.transmitting && decide (s.line.receiver ≠ .assembling)
      && decide (s.sched.framesLeft = 0) && decide (6 * s.line.divider ≤ 240)
    let claimed := waits (holding ring59) .claimed
    (claimed.line.waiting = some (waiting .claimed) ∧ claimed.transmitting = false ∧
      findPending 0 claimed.slots = none) ∧
    (ends (spent (holding ring5) 16) = true ∧ (spent (holding ring5) 16).ring.alone = true ∧
      (spent (holding ring5) 16).ring.inGap 6 = true) ∧
    (ends (spent (holding ring59) 0) = true ∧ (spent (holding ring59) 0).ring.inviteInterval ≠ 0 ∧
      (spent (holding ring59) 0).ring.inviteCountdown = 0 ∧ (spent (holding ring59) 0).ring.inGap 6 = true) ∧
    (ends (spent (holding 0x60) 0) = true ∧ (spent (holding 0x60) 0).ring.inviteCountdown = 0 ∧
      (spent (holding 0x60) 0).ring.inGap 6 = false ∧ (spent (holding 0x60) 0).ring.successor = some 6) ∧
    (ends (spent (holding ring59) 1) = true ∧ (spent (holding ring59) 1).ring.alone = false ∧
      (spent (holding ring59) 1).ring.inviteCountdown ≠ 0 ∧ (spent (holding ring59) 1).ring.successor = some 9) := by
  decide

/-- Slot 5 is found from cursor 6, after wrapping past the last slot. -/
theorem witness_FindAndSnapshot :
    let s : State := { waits (withSlot5 (holding ring59) (slot .publish false true)) .claimed with sched.cursor := 6 }
    s.line.waiting = some (waiting .claimed) ∧ s.transmitting = false ∧ s.slots[5].inService = true ∧
    s.slots[5].sendPending = true ∧
    ∀ j : SlotId, (j - s.sched.cursor).val < ((5 : SlotId) - s.sched.cursor).val →
      ¬ (s.slots[j].inService = true ∧ s.slots[j].sendPending = true) := by decide

/-- A JOIN and a TOKEN at their start time, one clock before it and during an activity, and a TOKEN under a stop
request. -/
theorem witness_RingFrameStarts :
    let join := waits (link .listen ring5 none) (.join 9)
    let early : State := { link .listen ring5 none with line.waiting := some { waiting (.join 9) with elapsed := 239 } }
    let token := waits (link .inviting ring59 (some 6)) .token
    let stop : State := { waits (holding ring59) .token with ring.stopRequest := true }
    let come (s : State) : Bool := decide (6 * s.line.divider ≤ 240) && decide (s.line.receiver ≠ .assembling)
      && !s.transmitting
    (join.line.waiting = some (waiting (.join 9)) ∧ come join = true) ∧
    (early.line.waiting = some { waiting (.join 9) with elapsed := 239 } ∧ early.transmitting = false ∧
      ¬ 6 * early.line.divider ≤ 239) ∧
    ((hearing join).line.waiting = some (waiting (.join 9)) ∧ (hearing join).transmitting = false ∧
      (hearing join).line.receiver = .assembling) ∧
    (token.line.waiting = some (waiting .token) ∧ come token = true ∧ token.ring.successor = some 9 ∧
      token.ring.stopRequest = false) ∧
    (stop.line.waiting = some (waiting .token) ∧ come stop = true ∧ stop.ring.successor = some 9 ∧
      stop.ring.stopRequest = true) := by decide

/-- A slot's frame ends in a holding, after it, and under a stop request with and without a successor. -/
theorem witness_SlotFrameEnds :
    let sending (map : BitVec 32) (stop held : Bool) : State := { sent (holding map) with
      sched.snapshot := some slotFrame, ring.stopRequest := stop, sched.holding := held }
    let on (s : State) : Bool := decide (s.sched.snapshot = some slotFrame) && decide (s.ring.link ≠ .off)
      && decide (s.ring.link ≠ .withdrawn) && s.frameDone && !s.ring.selfFiling
    (on (sending ring59 false true) = true ∧ (sending ring59 false true).ring.stopRequest = false ∧
      (sending ring59 false true).sched.holding = true ∧ (sending ring59 false true).sched.sendingOpen = true) ∧
    (on (sending ring59 false false) = true ∧ (sending ring59 false false).ring.stopRequest = false ∧
      (sending ring59 false false).sched.holding = false) ∧
    (on (sending ring59 true true) = true ∧ (sending ring59 true true).ring.stopRequest = true ∧
      (sending ring59 true true).ring.alone = false) ∧
    (on (sending ring5 true true) = true ∧ (sending ring5 true true).ring.stopRequest = true ∧
      (sending ring5 true true).ring.alone = true) := by decide

/-- A CLAIM and a TOKEN end without a stop request; a TOKEN, a CLAIM alone and a CLAIM with a successor end under one. -/
theorem witness_RingFrameEnds :
    let ends (s : State) (kind : RingFrameKind) (stop : Bool) : State := { sent s with
      line.ringFrame := some ⟨kind, 9⟩, ring.stopRequest := stop }
    let on (s : State) (kind : RingFrameKind) : Bool := decide (s.line.ringFrame = some ⟨kind, 9⟩)
      && decide (s.ring.link ≠ .off) && decide (s.ring.link ≠ .withdrawn) && s.frameDone
    let passing := link .passing ring59 (some 9)
    (on (ends (holding ring59) .claim false) .claim = true ∧
      (ends (holding ring59) .claim false).ring.stopRequest = false) ∧
    (on (ends passing .token false) .token = true ∧ (ends passing .token false).ring.stopRequest = false ∧
      RingFrameKind.token ≠ .claim) ∧
    (on (ends passing .token true) .token = true ∧ (ends passing .token true).ring.stopRequest = true ∧
      ¬ (RingFrameKind.token = .claim ∨ RingFrameKind.token = .invite)) ∧
    (on (ends (holding ring5) .claim true) .claim = true ∧ (ends (holding ring5) .claim true).ring.stopRequest = true ∧
      (ends (holding ring5) .claim true).ring.alone = true) ∧
    (on (ends (holding ring59) .claim true) .claim = true ∧
      (ends (holding ring59) .claim true).ring.stopRequest = true ∧
      (ends (holding ring59) .claim true).ring.alone = false) := by decide

/-- Frames at the limits of their fields, and a key, a length, a destination, a count and a check out of range. -/
theorem witness_FrameRoundTrip : Frame.wf (.data 31 0xFFFFFF (List.replicate 16 0xFF)) = true ∧
    Frame.wf (.data 0 0 []) = true ∧ Frame.wf (.extension true 31 (List.replicate 19 0)) = true ∧
    Frame.wf (.token 0 31) = true ∧ (1 ≤ 1 ∧ 1 < 12 ∧ 11 < 12) ∧ (1 ≤ 3 ∧ 3 < 4) ∧ 0 < (Frame.claim 2).bytes.length ∧
    List.length [(0 : Byte), 0, 0] = 3 ∧ 16 < BitVec.toNat (17 : Byte) ∧ 31 < BitVec.toNat (32 : Byte) ∧
    19 < BitVec.toNat (20 : Byte) ∧ (Frame.claim 2).body ++ [0, 0] ≠ (Frame.claim 2).bytes ∧ 5 < 6 := by decide +kernel

/-- Every bit of a frame's fields is 0 or 1 somewhere: the successor is found past the wrap from 31 to 0. -/
theorem witness_SuccessorAndGap : successorOf 31 0x80000001 = some 0 ∧ successorOf 0 1 = none := by decide

/-! ### A state that meets every invariant, and the step its front command takes -/

/-- In the ring with the token, a slot fresh and noticed, a filing and a read for notice waiting, a confirm-SEND
waiting, a completion being written. -/
def busy : State :=
  let base := withSlot5 (waits (holding ring59) .opportunity) (slot .subscribe true false)
  { base with
    filing := some (.data 3 0x41A000 [1])
    claims := [.notice, .filing]
    engine.openList := [entry 4 (some 6) .long .waiting, doneEntry]
    engine.credits := 2
    events.noticeList := [5]
    events.linkNotice := some { condition := .inRing, successor := some 9, changes := 1 }
    events.write := some
      { access := 0, address := 0, record := List.replicate 32 0, source := .completion 1, clocks := 0 }
    accessCount := 1
    pending := [.sendOpportunity] }

theorem witness_busy_slots : busy.tableOk ∧ busy.filingOk ∧ busy.claimsOk ∧ busy.noticesOk := by
  refine ⟨by decide, by decide, by decide, by decide⟩

theorem witness_busy_accesses : busy.accessesOk := by
  refine ⟨nofun, fun w h => ?_, nofun⟩
  obtain rfl := Option.some.inj h
  decide

theorem witness_busy_engine : busy.engine.stateOk ∧ busy.engine.listOk ∧ busy.engine.takeOk ∧ busy.writeOk = true ∧
    busy.accessesOk ∧ busy.creditsOk ∧ busy.registersOk := by
  refine ⟨by decide, by decide, by decide, by decide, witness_busy_accesses, by decide, by decide⟩

theorem witness_busy_link : busy.ring.nodeOk ∧ busy.ring.timersOk ∧ busy.ring.optionsOk ∧ busy.lineOk ∧
    busy.sendingOk := by
  refine ⟨by decide, by decide, by decide, by decide, by decide⟩

theorem witness_busy_Inv : busy.Inv :=
  ⟨witness_busy_slots, witness_busy_engine, ⟨witness_busy_link.1, witness_busy_link.2.1, witness_busy_link.2.2.1⟩,
    witness_busy_link.2.2.2⟩

/-- The hypotheses of the three statements on every step, met together. -/
theorem witness_StepKeepsSlotTable : busy.Inv ∧ ∃ t, step busy = .next t := ⟨witness_busy_Inv, _, rfl⟩

theorem witness_StepKeepsEngineAndEvents : busy.Inv ∧ ∃ t, step busy = .next t := ⟨witness_busy_Inv, _, rfl⟩

theorem witness_StepKeepsLinkAndLine : (busy.Inv ∧ ∃ t, step busy = .next t) ∧ busy.progressOk ∧
    ∀ n, n < 10 → busy.pending.head? ≠ some (.powerOnReset (.pinLow n)) :=
  ⟨⟨witness_busy_Inv, _, rfl⟩, by decide, fun _ _ => nofun⟩

end Sys2Proof.Tests
end

section
/-!
PROOFS. The filing of received frames: when a slot's key matches a frame's key (R46, Table 3-1).
-/
namespace Sys2Proof.Machine

/-! ### Keys under a mask -/

/-- Two keys are equal under a mask just when they hold the same bit wherever the mask holds a 1. -/
theorem and_mask_eq_iff_bits (k l m : Key) :
    k &&& m = l &&& m ↔ ∀ i < 24, m.getLsbD i = true → k.getLsbD i = l.getLsbD i := by
  constructor
  · intro h i _ hm
    have bit : (k &&& m).getLsbD i = (l &&& m).getLsbD i := congrArg (·.getLsbD i) h
    simpa [hm] using bit
  · intro h
    refine BitVec.eq_of_getLsbD_eq fun i hi => ?_
    rw [BitVec.getLsbD_and, BitVec.getLsbD_and]
    cases hm : m.getLsbD i with
    | false => simp
    | true => simp [h i hi hm]

/-! ### The two ways a slot matches -/

/-- With mask not in use all 24 bits count. -/
theorem Slot.matchesKey_iff_of_no_mask {x : Slot} (h : x.maskInUse = false) (key : Key) :
    x.matchesKey key = true ↔ x.key = key := by
  simp [Slot.matchesKey, h]

/-- With mask in use the two keys are compared under the slot's mask. -/
theorem Slot.matchesKey_iff_of_mask {x : Slot} (h : x.maskInUse = true) (key : Key) :
    x.matchesKey key = true ↔ x.key &&& x.mask = key &&& x.mask := by
  simp [Slot.matchesKey, h]

/-- R46's own words: the keys agree at every position that the mask selects. -/
theorem Slot.matchesKey_iff_bits {x : Slot} (h : x.maskInUse = true) (key : Key) :
    x.matchesKey key = true ↔ ∀ i < 24, x.mask.getLsbD i = true → x.key.getLsbD i = key.getLsbD i :=
  (Slot.matchesKey_iff_of_mask h key).trans (and_mask_eq_iff_bits ..)

/-- A mask of zeros selects no bit, so every key matches. -/
theorem Slot.matchesKey_of_mask_zero {x : Slot} (h : x.maskInUse = true) (zero : x.mask = 0x000000) (key : Key) :
    x.matchesKey key = true := by
  have none_selected : ∀ k : Key, k &&& 0x000000 = 0 := fun _ => BitVec.and_zero
  rw [Slot.matchesKey_iff_of_mask h, zero, none_selected, none_selected]

/-- A mask of ones selects every bit, so the slot matches as with no mask. -/
theorem Slot.matchesKey_iff_of_mask_ones {x : Slot} (h : x.maskInUse = true) (ones : x.mask = 0xFFFFFF) (key : Key) :
    x.matchesKey key = true ↔ x.key = key := by
  have all : (0xFFFFFF : Key) = BitVec.allOnes 24 := rfl
  rw [Slot.matchesKey_iff_of_mask h, ones, all, BitVec.and_allOnes, BitVec.and_allOnes]

/-! ### What a filing may write without changing what the slot matches -/

/-- A slot's matching reads its key, its mask and its mask in use, and no other field. -/
theorem Slot.matchesKey_congr {x y : Slot} (key : x.key = y.key) (mask : x.mask = y.mask)
    (inUse : x.maskInUse = y.maskInUse) (other : Key) : x.matchesKey other = y.matchesKey other := by
  simp only [Slot.matchesKey, key, mask, inUse]

/-- A key that the slot matches agrees with the slot's own on all that counts, so it can take its place. -/
theorem Slot.matchesKey_setKey {x : Slot} {key : Key} (h : x.matchesKey key = true) (other : Key) :
    { x with key := key }.matchesKey other = x.matchesKey other := by
  obtain used | used := Bool.eq_false_or_eq_true x.maskInUse
  · have same : x.key &&& x.mask = key &&& x.mask := (Slot.matchesKey_iff_of_mask used key).mp h
    rw [Bool.eq_iff_iff, Slot.matchesKey_iff_of_mask used, same]
    exact Slot.matchesKey_iff_of_mask (x := { x with key := key }) used other
  · have same : x.key = key := (Slot.matchesKey_iff_of_no_mask used key).mp h
    exact Slot.matchesKey_congr (x := { x with key := key }) same.symm rfl rfl other

/-! ### The statement -/

/-- The masks of Table 3-1 beside the key 0x41A000: the two low hex digits left open, then the four. -/
theorem Slot.matchesKey_worked {x : Slot} (own : x.key = 0x41A000) (used : x.maskInUse = true) :
    (x.mask = 0xFFFF00 →
      x.matchesKey 0x41A000 = true ∧ x.matchesKey 0x41A0C7 = true ∧ x.matchesKey 0x41B000 = false) ∧
    (x.mask = 0xFF0000 →
      x.matchesKey 0x41A000 = true ∧ x.matchesKey 0x41A0C7 = true ∧ x.matchesKey 0x41B000 = true) := by
  simp only [← Bool.not_eq_true, Slot.matchesKey_iff_of_mask used, own]
  constructor <;> intro selected <;> rw [selected] <;> decide

/-- Settles O44: R46's two comparisons, what they do not read, and the worked masks of Table 3-1. -/
theorem keyMatching : Obligations.KeyMatching := by
  unfold Obligations.KeyMatching
  refine ⟨fun x key => ⟨?exact, ?masked, ?zeros, ?ones, ?frame⟩, ?written, ?worked⟩
  case exact => exact fun unused => Slot.matchesKey_iff_of_no_mask unused key
  case masked => exact fun used => Slot.matchesKey_iff_bits used key
  case zeros => exact fun used zero => Slot.matchesKey_of_mask_zero used zero key
  case ones => exact fun used ones => Slot.matchesKey_iff_of_mask_ones used ones key
  case frame => exact fun _ _ _ _ => Slot.matchesKey_congr rfl rfl rfl key
  case written => exact fun _ _ other matched => Slot.matchesKey_setKey matched other
  case worked => exact fun _ own used => Slot.matchesKey_worked own used

end Sys2Proof.Machine
end

section
/-!
PROOFS. The token ring: the successor and the gap that a live map gives (R66), and its single marks (R65, R80).
-/
namespace Sys2Proof.Machine

/-! ### The successor -/

/-- R66: the successor is the nearest marked address above the own one, and nothing else is. -/
theorem successorOf_eq_some_iff {own t : Addr} {m : BitVec 32} :
    successorOf own m = some t ↔ t ≠ own ∧ marked m t = true ∧
      ∀ b, b ≠ own → marked m b = true → (t - own).toNat ≤ (b - own).toNat := by
  constructor
  · exact fun h => ⟨successorOf_ne_own h, successorOf_marked h, successorOf_nearest h⟩
  · rintro ⟨other, mark, nearest⟩
    obtain ⟨u, hu⟩ := Option.isSome_iff_exists.mp (successorOf_isSome.mpr ⟨t, other, mark⟩)
    have same_distance : (u - own).toNat = (t - own).toNat :=
      Nat.le_antisymm (successorOf_nearest hu t other mark)
        (nearest u (successorOf_ne_own hu) (successorOf_marked hu))
    rw [hu, distance_injective own u t same_distance]

theorem Ring.alone_iff_successor_none (r : Ring) : r.alone = true ↔ r.successor = none :=
  Option.isNone_iff_eq_none

/-- R66: the part is alone just when no address other than its own is marked. -/
theorem Ring.alone_iff_no_other_mark (r : Ring) :
    r.alone = true ↔ ∀ b, b ≠ r.ownAddress → marked r.liveMap b = false := by
  have some_iff : r.successor.isSome = true ↔ ∃ a, a ≠ r.ownAddress ∧ marked r.liveMap a = true :=
    successorOf_isSome
  rw [Ring.alone_iff_successor_none, ← Option.not_isSome_iff_eq_none, some_iff]
  simp

/-! ### The gap -/

/-- R66: the gap lies strictly between the own address and the successor; alone, it is every other address. -/
theorem Ring.inGap_iff (r : Ring) (b : Addr) : r.inGap b = true ↔ b ≠ r.ownAddress ∧
    ∀ t, r.successor = some t → (b - r.ownAddress).toNat < (t - r.ownAddress).toNat := by
  cases h : r.successor with
  | none => simp [Ring.inGap, h]
  | some t =>
    simp only [Ring.inGap, h, Bool.and_eq_true, decide_eq_true_eq, Option.some.injEq, forall_eq']
    simp only [Ring.distance]

/-- A marked address of the gap would lie nearer than the successor, or be one where there is none. -/
theorem Ring.not_marked_of_inGap (r : Ring) (b : Addr) (h : r.inGap b = true) : marked r.liveMap b = false := by
  obtain ⟨other, nearer⟩ := (r.inGap_iff b).mp h
  by_contra mark
  rw [Bool.not_eq_false] at mark
  obtain ⟨t, ht⟩ := Option.isSome_iff_exists.mp (successorOf_isSome.mpr ⟨b, other, mark⟩)
  exact absurd (successorOf_nearest ht b other mark) (Nat.not_le_of_lt (nearer t ht))

/-- The address next above another lies 1 above it, also past the wrap from 31 to 0. -/
theorem distance_next (own : Addr) : (own + 1 - own).toNat = 1 := by
  rw [BitVec.add_comm, BitVec.add_sub_cancel]
  rfl

theorem next_ne_own (own : Addr) : own + 1 ≠ own :=
  (distance_eq_zero own (own + 1)).not.mp (by rw [distance_next]; exact Nat.one_ne_zero)

/-- R66: the gap is empty just when the successor is the address next above the own address. -/
theorem Ring.gap_empty_iff (r : Ring) :
    (∀ b, r.inGap b = false) ↔ r.successor = some (r.ownAddress + 1) := by
  constructor
  · intro empty
    have next_outside : ¬ r.inGap (r.ownAddress + 1) = true := ne_true_of_eq_false (empty _)
    rw [Ring.inGap_iff, distance_next] at next_outside
    push Not at next_outside
    obtain ⟨t, ht, near⟩ := next_outside (next_ne_own r.ownAddress)
    have above : (t - r.ownAddress).toNat ≠ 0 := (distance_eq_zero _ t).not.mpr (successorOf_ne_own ht)
    have at_next : (t - r.ownAddress).toNat = (r.ownAddress + 1 - r.ownAddress).toNat := by
      rw [distance_next]; omega
    rw [ht, distance_injective _ _ _ at_next]
  · intro next b
    rw [← Bool.not_eq_true, Ring.inGap_iff]
    rintro ⟨other, nearer⟩
    have below : (b - r.ownAddress).toNat < 1 := distance_next r.ownAddress ▸ nearer _ next
    exact other ((distance_eq_zero _ b).mp (Nat.lt_one_iff.mp below))

/-! ### The statement -/

/-- Settles O55: the successor and the gap of a live map (R66), and the marks one at a time (R65, R80). -/
theorem successorAndGap : Obligations.SuccessorAndGap := by
  unfold Obligations.SuccessorAndGap
  refine ⟨fun r => ⟨?successor, ?noOther, ?noSuccessor, ?gap, ?unmarked, ?empty⟩, fun m a b => ⟨?set, ?clear⟩⟩
  case successor => exact fun _ => successorOf_eq_some_iff
  case noOther => exact r.alone_iff_no_other_mark
  case noSuccessor => exact r.alone_iff_successor_none
  case gap => exact r.inGap_iff
  case unmarked => exact r.not_marked_of_inGap
  case empty => exact r.gap_empty_iff
  case set => rw [marked_setMark, Bool.or_comm, decide_eq_decide.mpr eq_comm]
  case clear => rw [marked_clearMark, Bool.and_comm, decide_not, decide_eq_decide.mpr eq_comm]

end Sys2Proof.Machine
end

section
/-!
PROOFS. The check word of a command record (R114), and what it and the phase do to a record of 64 equal bytes (R113).
-/
namespace Sys2Proof.Machine

/-! ### The check word as one exclusive-or -/

/-- The halfwords the check word covers are all 32 but halfword 1 (R114). -/
theorem checkedHalves_eq_filter : checkedHalves = (List.range 32).filter (· ≠ 1) := by decide

/-- The start of an exclusive-or taken from the left and the constant put to it after may trade places. -/
theorem foldl_xor_xor (l : List Half) (a c : Half) :
    l.foldl (· ^^^ ·) a ^^^ c = a ^^^ l.foldr (· ^^^ ·) c := by
  induction l generalizing a with
  | nil => rfl
  | cons h l ih => rw [List.foldl_cons, List.foldr_cons, ih, BitVec.xor_assoc]

/-- R114: the constant is the last operand of the exclusive-or over the covered halfwords. -/
theorem checkWordOf_eq_foldr (r : List Byte) :
    checkWordOf r = (checkedHalves.map (recHalf r)).foldr (· ^^^ ·) Config.checkConstant :=
  (foldl_xor_xor _ 0 Config.checkConstant).trans BitVec.zero_xor

/-- R114: the check word is correct when halfword 1 is the one the record should have. -/
theorem checkCorrect_iff (r : List Byte) : checkCorrect r = true ↔ recHalf r 1 = checkWordOf r := by
  rw [checkCorrect, decide_eq_true_eq, eq_comm]

/-! ### A record of 64 equal bytes -/

/-- Equal halfwords cancel in pairs, so that an odd number of them leaves one. -/
theorem foldr_xor_replicate_odd (h c : Half) (n : Nat) :
    (List.replicate (2 * n + 1) h).foldr (· ^^^ ·) c = h ^^^ c := by
  induction n with
  | zero => rfl
  | succ n ih =>
    rw [show 2 * (n + 1) + 1 = (2 * n + 1) + 1 + 1 by omega, List.replicate_succ, List.replicate_succ,
      List.foldr_cons, List.foldr_cons, ih, ← BitVec.xor_assoc, BitVec.xor_self, BitVec.zero_xor]

theorem recByte_replicate (b : Byte) {n i : Nat} (h : i < n) : recByte (List.replicate n b) i = b :=
  List.getD_replicate b h

theorem recHalf_replicate (b : Byte) {i : Nat} (h : i < 32) : recHalf (List.replicate 64 b) i = b ++ b := by
  rw [recHalf, recByte_replicate b (by omega), recByte_replicate b (by omega)]

theorem lt_of_mem_checkedHalves {i : Nat} (h : i ∈ checkedHalves) : i < 32 := by
  rw [checkedHalves_eq_filter] at h
  exact List.mem_range.mp (List.mem_of_mem_filter h)

/-- The 31 covered halfwords of 64 equal bytes leave one of them and the constant. -/
theorem checkWordOf_replicate (b : Byte) :
    checkWordOf (List.replicate 64 b) = (b ++ b) ^^^ Config.checkConstant := by
  have covered : checkedHalves.map (recHalf (List.replicate 64 b)) = List.replicate (2 * 15 + 1) (b ++ b) :=
    List.map_eq_replicate_iff.mpr fun _ hi => recHalf_replicate b (lt_of_mem_checkedHalves hi)
  rw [checkWordOf_eq_foldr, covered, foldr_xor_replicate_odd]

/-- R114: no record of 64 equal bytes has a correct check word, since the constant is not 0. -/
theorem checkCorrect_replicate (b : Byte) : checkCorrect (List.replicate 64 b) = false := by
  rw [← Bool.not_eq_true, checkCorrect_iff, checkWordOf_replicate, recHalf_replicate b (by decide)]
  intro same
  have constant_zero : Config.checkConstant = 0 := (BitVec.xor_right_inj (b ++ b)).mp (same.symm.trans BitVec.xor_zero.symm)
  exact absurd constant_zero (by decide)

theorem recPhase_replicate (b : Byte) : recPhase (List.replicate 64 b) = b.getLsbD 0 := by
  rw [recPhase, recByte_replicate b (by decide)]

/-! ### The first two checks of a taken record -/

/-- R113 check 1: a record of the other phase is refused STALE. -/
theorem checkRecord_stale {expected : Bool} {r : List Byte} (phase : recPhase r ≠ expected) :
    checkRecord expected r = .error .stale := by
  rw [checkRecord, if_pos phase]

/-- R113 check 2: a record of the expected phase with a wrong check word is refused BAD_CHECK. -/
theorem checkRecord_badCheck {expected : Bool} {r : List Byte} (phase : recPhase r = expected)
    (wrong : checkCorrect r = false) : checkRecord expected r = .error .badCheck := by
  rw [checkRecord, if_neg (not_not_intro phase), wrong, if_pos (by rfl)]

/-- A record of 64 equal bytes is refused by its phase, or else by its check word. -/
theorem checkRecord_replicate (expected : Bool) (b : Byte) :
    checkRecord expected (List.replicate 64 b) = .error (if b.getLsbD 0 = expected then .badCheck else .stale) := by
  split
  case isTrue phase =>
    exact checkRecord_badCheck ((recPhase_replicate b).trans phase) (checkCorrect_replicate b)
  case isFalse phase => exact checkRecord_stale (recPhase_replicate b ▸ phase)

/-! ### The statement -/

/-- Settles O18: the check word as R114 gives it, and the records of zero bytes and of 0xFF bytes. -/
theorem checkWord : Obligations.CheckWord := by
  unfold Obligations.CheckWord
  refine ⟨fun r => ?correct, fun r i => ?half, ?zeroWord, ?zeroWrong, ?onesWord, ?onesWrong,
    ?zeroCheck, ?zeroStale, ?onesCheck, ?onesStale⟩
  case correct =>
    rw [checkCorrect_iff, checkWordOf_eq_foldr, List.foldr_map, checkedHalves_eq_filter, Config.checkConstant]
  case half => rfl
  case zeroWord => exact checkWordOf_replicate 0
  case zeroWrong => exact checkCorrect_replicate 0
  case onesWord => exact checkWordOf_replicate 0xFF
  case onesWrong => exact checkCorrect_replicate 0xFF
  case zeroCheck => exact checkRecord_replicate false 0
  case zeroStale => exact checkRecord_replicate true 0
  case onesCheck => exact checkRecord_replicate true 0xFF
  case onesStale => exact checkRecord_replicate false 0xFF

end Sys2Proof.Machine
end

section
/-!
PROOFS. The notify registers: what a write of them does, and what the resets make of them (R156 to R158, R163).
-/
namespace Sys2Proof.Machine

/-! ### A write of a notify register -/

/-- R158: NOTIFY_LEVEL takes a value of 0 to 4096. -/
theorem exec_notifyLevelWrite_taken {s : State} {v : Word} (high : s.resetLow = false) (fits : v.toNat ≤ 4096) :
    exec (.notifyLevelWrite v) s = .next { s with regs.notifyLevel := v.toNat } := by
  rw [exec_notifyLevelWrite, execNotifyLevelWrite, State.hostAccess_high high, if_pos fits, State.withRegs]

/-- R158: NOTIFY_LEVEL refuses a larger value. -/
theorem exec_notifyLevelWrite_refused {s : State} {v : Word} (high : s.resetLow = false) (large : 4096 < v.toNat) :
    exec (.notifyLevelWrite v) s = .next s.setRefused := by
  rw [exec_notifyLevelWrite, execNotifyLevelWrite, State.hostAccess_high high, if_neg large.not_ge]

/-- R158: NOTIFY_QUIET takes a value of 0 to 65535. -/
theorem exec_notifyQuietWrite_taken {s : State} {v : Word} (high : s.resetLow = false) (fits : v.toNat ≤ 65535) :
    exec (.notifyQuietWrite v) s = .next { s with regs.notifyQuiet := v.toNat } := by
  rw [exec_notifyQuietWrite, execNotifyQuietWrite, State.hostAccess_high high, if_pos fits, State.withRegs]

/-- R158: NOTIFY_QUIET refuses a larger value. -/
theorem exec_notifyQuietWrite_refused {s : State} {v : Word} (high : s.resetLow = false) (large : 65535 < v.toNat) :
    exec (.notifyQuietWrite v) s = .next s.setRefused := by
  rw [exec_notifyQuietWrite, execNotifyQuietWrite, State.hostAccess_high high, if_neg large.not_ge]

/-! ### The conditions the two registers are compared in (R156) -/

theorem State.levelCondition_iff (s : State) :
    s.levelCondition = true ↔ s.regs.notifyLevel ≠ 0 ∧ s.regs.notifyLevel ≤ s.unconsumed := by
  simp [State.levelCondition]

theorem State.quietCondition_iff (s : State) :
    s.quietCondition = true ↔
      s.regs.notifyQuiet ≠ 0 ∧ s.regs.notifyQuiet ≤ s.events.quietMicros ∧ 1 ≤ s.unconsumed := by
  simp [State.quietCondition, State.quietExpired, and_assoc]

/-! ### The registers through a change of the run bit and the resets -/

/-- The event writer's look for a notice writes no register (R148). -/
@[simp] theorem State.lookForNotice_regs (s : State) : s.lookForNotice.regs = s.regs := by
  rw [State.lookForNotice_eq, State.withClaims_regs]

/-- Of the registers, the run bit of a CONTROL write touches none but the sticky flag, and that only while the engine
is FAULTED (R109, R110). -/
theorem State.controlRun_regs (s : State) (run : Bool) :
    (s.controlRun run).regs =
      if s.engine.state = .faulted then { s.regs with indexRefused := true } else s.regs := by
  unfold State.controlRun
  cases engine : s.engine.state with
  | stopped =>
    cases run with
    | false => rfl
    | true => cases s.runCheck <;> simp
  | running => cases run <;> rfl
  | faulted => rfl

/-- Of the registers, engine reset sets CMD_TAIL and EVT_HEAD to 0 and touches no other, whatever its run bit
(R122, R159, R167). -/
theorem State.engineReset_regs (s : State) (run : Bool) :
    (s.afterEngineReset.controlRun run).regs = { s.regs with cmdTail := 0, evtHead := 0 } := by
  have stopped : s.afterEngineReset.engine.state = .stopped := rfl
  rw [State.controlRun_regs, stopped]
  rfl

theorem exec_deviceReset_high {s : State} (high : s.resetLow = false) :
    exec .deviceReset s = .next s.afterDeviceReset :=
  State.hostAccess_high high

theorem exec_engineReset_high {s : State} (high : s.resetLow = false) (run : Bool) :
    exec (.engineReset run) s = .next (s.afterEngineReset.controlRun run) :=
  State.hostAccess_high high

/-! ### The statement -/

/-- Settles O11: what the two notify registers take and refuse, the conditions on the value taken, and the resets. -/
theorem notifyRegisterWrites : Obligations.NotifyRegisterWrites := by
  unfold Obligations.NotifyRegisterWrites
  intro s v high
  refine ⟨?levelTaken, ?levelRefused, ?quietTaken, ?quietRefused, ?device, ?power, ?engine⟩
  case levelTaken => exact fun fits => ⟨_, exec_notifyLevelWrite_taken high fits, rfl, State.levelCondition_iff _⟩
  case levelRefused => exact exec_notifyLevelWrite_refused high
  case quietTaken => exact fun fits => ⟨_, exec_notifyQuietWrite_taken high fits, rfl, State.quietCondition_iff _⟩
  case quietRefused => exact exec_notifyQuietWrite_refused high
  case device => exact ⟨_, exec_deviceReset_high high, rfl, rfl⟩
  case power => exact ⟨s.powerOn, rfl, rfl, rfl⟩
  case engine =>
    intro run
    refine ⟨_, exec_engineReset_high high run, ?_, ?_⟩ <;> rw [State.engineReset_regs]

end Sys2Proof.Machine
end

section
/-!
PROOFS. What the rows of the link do to the rest of the part: they write the ring controller, the line unit, the send
scheduler and the link notice, and they report to entries of the open list that wait; nothing else changes.
-/
namespace Sys2Proof.Machine

/-! ### What a row answers -/

/-- Whatever next state a row answers meets `P`. -/
def Ensures (P : State → Prop) (o : Host.Outcome State Fault Refusal) : Prop := ∀ t, o = .next t → P t

theorem ensures_next {P : State → Prop} {t : State} : Ensures P (.next t) ↔ P t :=
  ⟨fun h => h t rfl, fun h _ e => by cases e; exact h⟩

theorem ensures_hostAccess {P : State → Prop} {s t : State} (stay : P s) (h : P t) : Ensures P (s.hostAccess t) := by
  unfold State.hostAccess
  rw [ensures_next]
  split
  · exact stay
  · exact h

/-! ### Reports to waiting entries (R117) -/

/-- What a report of the link or of the slot table does to one entry: nothing, or a waiting or attached entry is done
without a result, or a waiting confirm-SEND is attached to its frame. -/
inductive Entry.Reported : Entry → Entry → Prop
  | same (e : Entry) : Reported e e
  | finished (e : Entry) (st : Status) : e.state = .waiting ∨ e.state = .attached → Reported e (e.finish st)
  | attached (e : Entry) (k : SlotId) : e.waitsOn k = true → Reported e { e with state := .attached }

/-- The open list after reports: the same entries in the same places, each reported to or not. -/
abbrev Reports (l m : List Entry) : Prop := List.Forall₂ Entry.Reported l m

/-- Two reports to one entry are one: a done entry gets no more, and one attached first is done in the end. -/
theorem Entry.Reported.trans {d e f : Entry} (h : Reported d e) (k : Reported e f) : Reported d f := by
  cases h with
  | same => exact k
  | finished st waits =>
    cases k with
    | same => exact .finished d st waits
    | finished st' waits' => exact absurd waits' (by simp [Entry.finish])
    | attached k on => exact absurd (Entry.waitsOn_waiting on) (by simp [Entry.finish])
  | attached j on =>
    cases k with
    | same => exact .attached d j on
    | finished st' _ => exact .finished d st' (.inl (Entry.waitsOn_waiting on))
    | attached k on' => exact absurd (Entry.waitsOn_waiting on') (by simp)

theorem Reports.refl (l : List Entry) : Reports l l := List.forall₂_same.mpr fun e _ => .same e

theorem Reports.trans {l m n : List Entry} (h : Reports l m) (k : Reports m n) : Reports l n := by
  induction h generalizing n with
  | nil => exact k
  | cons head _ ih =>
    cases k with
    | cons head' tail' => exact .cons (head.trans head') (ih tail')

theorem Reports.of_map {f : Entry → Entry} (h : ∀ e, Entry.Reported e (f e)) (l : List Entry) : Reports l (l.map f) := by
  rw [Reports, List.forall₂_map_right_iff]
  exact List.forall₂_same.mpr fun e _ => h e

theorem Reports.finishWhere {p : Entry → Bool} (st : Status)
    (h : ∀ e, p e = true → e.state = .waiting ∨ e.state = .attached) (l : List Entry) :
    Reports l (finishWhere p st l) := by
  refine .of_map (fun e => ?_) l
  split
  · next met => exact .finished e st (h e met)
  · exact .same e

theorem Entry.attachedOn_attached {e : Entry} {k : SlotId} (h : e.attachedOn k = true) : e.state = .attached := by
  simp only [Entry.attachedOn, Bool.and_eq_true, decide_eq_true_eq] at h
  exact h.1

/-! ### A move of the link -/

/-- A pending link notice counts 1 to 255 changes (R155). -/
def LinkNotice.counted (n : LinkNotice) : Bool := decide (1 ≤ n.changes) && decide (n.changes ≤ 255)

/-- A link change merged into the notice keeps its count between 1 and 255 (R155). -/
theorem mergeLinkNotice_counted {n : Option LinkNotice} (h : n.all LinkNotice.counted = true) (c : Condition)
    (successor : Option Addr) : (mergeLinkNotice n c successor).counted = true := by
  cases n with
  | none => rfl
  | some n =>
    simp only [Option.all_some, LinkNotice.counted, Bool.and_eq_true, decide_eq_true_eq] at h
    rw [LinkNotice.counted, mergeLinkNotice, Bool.and_eq_true, decide_eq_true_eq, decide_eq_true_eq]
    dsimp only
    split <;> omega

/-- From `s` to `t` only the link has moved: its three blocks, the level of the line, the link notice, which stays
within its count, and reports to entries of the open list. -/
structure LinkMove (s t : State) : Prop where
  frame : t = { s with
    ring := t.ring, line := t.line, sched := t.sched, lineActive := t.lineActive
    engine.openList := t.engine.openList, events.linkNotice := t.events.linkNotice }
  reports : Reports s.engine.openList t.engine.openList
  notice : s.events.linkNotice.all LinkNotice.counted = true → t.events.linkNotice.all LinkNotice.counted = true

namespace LinkMove

variable {s t u : State}

/-- A change of the link's three blocks alone. -/
theorem of_blocks (h : t = { s with ring := t.ring, line := t.line, sched := t.sched, lineActive := t.lineActive }) :
    LinkMove s t where
  frame := by rw [h]
  reports := by rw [h]; exact .refl _
  notice := by rw [h]; exact id

theorem refl (s : State) : LinkMove s s := of_blocks rfl

/-- A report to the open list alone. -/
theorem of_reports {l : List Entry} (h : Reports s.engine.openList l) : LinkMove s (s.withOpenList l) where
  frame := rfl
  reports := h
  notice := id

theorem trans (h : LinkMove s t) (k : LinkMove t u) : LinkMove s u where
  frame := by
    obtain ⟨hf, -, -⟩ := h
    rw [k.frame, hf]
  reports := h.reports.trans k.reports
  notice := k.notice ∘ h.notice

end LinkMove

/-! ### The shared steps of the ring controller are moves of the link -/

section
variable (s : State)

theorem State.reportLink_move : LinkMove s s.reportLink := by
  cases changed : s.ring.changed with
  | false => rw [State.reportLink_same changed]; exact .refl s
  | true =>
    rw [State.reportLink_changed changed]
    refine ⟨rfl, .refl _, fun counted => ?_⟩
    show (mergeLinkNotice _ _ _).counted = true
    exact mergeLinkNotice_counted counted _ _

/-- A move that ends in the comparison of R84. -/
theorem LinkMove.reported {s t : State} (h : LinkMove s t) : LinkMove s t.reportLink := h.trans t.reportLink_move

theorem State.reachOff_move : LinkMove s s.reachOff :=
  .trans (.of_blocks rfl) (.of_reports
    ((Reports.finishWhere .linkDown (fun _ w => .inl (Entry.waitsAs_waiting w)) _).trans
      (Reports.finishWhere .ok (fun _ w => .inl (Entry.waitsAs_waiting w)) _)))

theorem State.withdraw_move : LinkMove s s.withdraw :=
  .trans (.of_blocks rfl) (.of_reports (Reports.finishWhere .linkDown (fun _ w => .inl (Entry.waitsAs_waiting w)) _))

theorem State.unheardTo_move (target : LinkState) : LinkMove s (s.unheardTo target) := by
  unfold State.unheardTo
  split
  · exact s.withdraw_move
  · exact .of_blocks rfl

theorem State.startHolding_move (gap : Nat) : LinkMove s (s.startHolding gap) := .of_blocks rfl

theorem State.passToken_move (d : Addr) (attempt : Attempt) : LinkMove s (s.passToken d attempt) := .of_blocks rfl

theorem State.leaveTo_move (target : LinkState) : LinkMove s (s.leaveTo target) := .of_blocks rfl

theorem State.await_move (w : Option Waiting) : LinkMove s (s.await w) := .of_blocks rfl

theorem State.beginPause_move : LinkMove s s.beginPause := .of_blocks rfl

theorem State.standStop_move : LinkMove s s.standStop := .of_blocks rfl

theorem State.withRing_move (r : Ring) : LinkMove s (s.withRing r) := .of_blocks rfl

theorem State.beginInvite_move : LinkMove s s.beginInvite := .of_blocks rfl

theorem State.sendingEnded_move : LinkMove s s.sendingEnded := by
  have closed : LinkMove s (s.withSched { s.sched with sendingOpen := false }) := .of_blocks rfl
  unfold State.sendingEnded
  dsimp only
  split
  · exact closed.trans (State.beginInvite_move _)
  · split
    · refine .trans ?_ (State.passToken_move _ _ _)
      split
      · exact closed.trans (State.withRing_move _ _)
      · exact closed
    · exact closed

theorem State.afterStoppedFrame_move : LinkMove s s.afterStoppedFrame := by
  unfold State.afterStoppedFrame
  split
  · exact s.reachOff_move
  · exact s.await_move _

/-! ### The link's rows are moves of the link -/

theorem State.seeActive_move (clocks : Nat) : LinkMove s (s.seeActive clocks) := by
  unfold State.seeActive
  split
  · split <;> exact .of_blocks rfl
  · exact .refl s

theorem execActivityStart_move (clocks : Nat) : Ensures (LinkMove s) (execActivityStart clocks s) := by
  rw [execActivityStart, ensures_next]
  split
  · exact (s.seeActive_move clocks).trans (.of_blocks rfl)
  · exact .refl s

theorem State.stopLink_move : LinkMove s s.stopLink := by
  unfold State.stopLink
  split
  · exact .refl s
  · split
    case h_1 => exact .refl s
    case h_2 | h_3 | h_4 => exact s.reachOff_move
    case h_5 | h_6 => split; exacts [s.standStop_move, s.reachOff_move]
    case h_7 | h_8 =>
      split
      · exact .of_blocks rfl
      · split
        · exact s.reachOff_move
        · exact .of_blocks rfl

theorem State.startLink_move (o : LinkOptions) : LinkMove s (s.startLink o) := by
  unfold State.startLink
  exact .reported (.of_blocks rfl)

theorem State.takeIdle_move (a : Arrival) : LinkMove s (s.takeIdle a) := by
  unfold State.takeIdle
  split
  · exact .refl s
  · split
    · exact s.startHolding_move _
    · split <;> exact s.await_move _

theorem State.takeJoining_move (a : Arrival) : LinkMove s (s.takeJoining a) := by
  unfold State.takeJoining
  split
  · exact s.leaveTo_move _
  · split
    · exact .of_blocks rfl
    · exact s.unheardTo_move _

theorem State.takeHolding_move (a : Arrival) : LinkMove s (s.takeHolding a) := by
  unfold State.takeHolding
  split
  · exact s.leaveTo_move _
  · split
    · exact s.startHolding_move _
    · exact s.unheardTo_move _

theorem State.takeInviting_move (a : Arrival) (inWindow : Bool) : LinkMove s (s.takeInviting a inWindow) := by
  unfold State.takeInviting
  split
  · split
    · dsimp only; split <;> exact .of_blocks rfl
    · exact .refl s
  · split
    · exact s.await_move _
    · split
      · exact s.startHolding_move _
      · exact s.unheardTo_move _

theorem State.takePassing_move (a : Arrival) : LinkMove s (s.takePassing a) := by
  unfold State.takePassing
  split
  · exact s.leaveTo_move _
  · split
    · split <;> exact .of_blocks rfl
    · split
      · exact s.startHolding_move _
      · exact s.unheardTo_move _

theorem State.takeByLink_move (a : Arrival) (inWindow : Bool) : LinkMove s (s.takeByLink a inWindow) := by
  unfold State.takeByLink
  split
  · exact s.reachOff_move
  · split
    case h_2 | h_4 => exact s.takeIdle_move a
    case h_3 => exact s.takeJoining_move a
    case h_5 => exact s.takeHolding_move a
    case h_6 => exact s.takeInviting_move a inWindow
    case h_7 => exact s.takePassing_move a
    case h_1 | h_8 => exact .refl s

theorem State.noteArrival_move (a : Arrival) : LinkMove s (s.noteArrival a) := .of_blocks rfl

theorem State.arrive_move (a : Arrival) : LinkMove s (s.arrive a) := by
  unfold State.arrive
  split
  · exact .reported ((s.noteArrival_move a).trans (State.takeByLink_move _ a _))
  · exact .refl s

theorem State.arriveAddressed_move (d : Byte) (a : Addr → Arrival) : LinkMove s (s.arriveAddressed d a) := by
  unfold State.arriveAddressed
  split <;> exact s.arrive_move _

theorem State.claim_move : LinkMove s s.claim := .of_blocks rfl

theorem State.silenceExpired_move : LinkMove s s.silenceExpired := by
  unfold State.silenceExpired
  split
  case h_1 =>
    split
    · exact .refl s
    · exact s.claim_move
  case h_2 => exact s.claim_move
  all_goals exact .refl s

theorem execSilenceTimeout_move : Ensures (LinkMove s) (execSilenceTimeout s) := by
  rw [execSilenceTimeout, ensures_next]
  split
  · exact .reported ((s.withRing_move _).trans (State.silenceExpired_move _))
  · exact .refl s

theorem State.passFailed_move : LinkMove s s.passFailed := by
  unfold State.passFailed
  dsimp only
  split
  · exact (s.withRing_move _).trans (State.passToken_move _ _ _)
  · exact (s.withRing_move _).trans (State.startHolding_move _ _)

theorem State.windowExpired_move : LinkMove s s.windowExpired := by
  unfold State.windowExpired
  split
  case h_1 => exact s.unheardTo_move _
  case h_2 =>
    unfold State.inviteExpired
    dsimp only
    split
    · exact (s.withRing_move _).trans (State.passToken_move _ _ _)
    · exact (s.withRing_move _).trans (State.beginPause_move _)
  case h_3 =>
    unfold State.passExpired
    split
    · exact s.passToken_move _ _
    · exact s.passFailed_move
  all_goals exact .refl s

theorem execResponseWindowExpiry_move : Ensures (LinkMove s) (execResponseWindowExpiry s) := by
  rw [execResponseWindowExpiry, ensures_next]
  split
  · exact .reported ((s.withRing_move _).trans (State.windowExpired_move _))
  · exact .refl s

theorem execLonePauseEnd_move : Ensures (LinkMove s) (execLonePauseEnd s) := by
  rw [execLonePauseEnd, ensures_next]
  split
  · exact .reported (s.startHolding_move 0)
  · exact .refl s

theorem execSendOpportunity_move : Ensures (LinkMove s) (execSendOpportunity s) := by
  rw [execSendOpportunity, ensures_next]
  split
  · split
    · exact .reported s.sendingEnded_move
    · exact s.await_move _
  · exact .refl s

theorem State.beginJoin_move (inviter : Addr) : LinkMove s (s.beginJoin inviter) := .of_blocks rfl

theorem State.beginToken_move : LinkMove s s.beginToken := by
  unfold State.beginToken
  split
  · split
    · exact .of_blocks rfl
    · exact s.passToken_move _ _
  · exact .refl s

theorem State.startRequested_move (w : Waiting) : LinkMove s (s.startRequested w) := by
  unfold State.startRequested
  split
  · exact (s.beginJoin_move _).reported
  · exact s.beginToken_move.reported
  all_goals exact .refl s

theorem execRingFrameStart_move : Ensures (LinkMove s) (execRingFrameStart s) := by
  rw [execRingFrameStart, ensures_next]
  split
  · split
    · exact s.startRequested_move _
    · exact .refl s
  · exact .refl s

theorem State.stoppedFrameEnded_move (kind : RingFrameKind) : LinkMove s (s.stoppedFrameEnded kind) := by
  cases kind with
  | token | join => exact s.reachOff_move
  | claim | invite => exact s.afterStoppedFrame_move

theorem State.ringFrameEnded_move (kind : RingFrameKind) : LinkMove s (s.ringFrameEnded kind) := by
  cases kind <;> exact .of_blocks rfl

theorem State.endRingFrame_move : LinkMove s s.endRingFrame := .of_blocks rfl

theorem State.finishRingFrame_move (kind : RingFrameKind) : LinkMove s (s.finishRingFrame kind) := by
  unfold State.finishRingFrame
  refine .reported (s.endRingFrame_move.trans ?_)
  split
  · exact State.stoppedFrameEnded_move _ kind
  · exact State.ringFrameEnded_move _ kind

theorem execRingFrameEnd_move : Ensures (LinkMove s) (execRingFrameEnd s) := by
  rw [execRingFrameEnd, ensures_next]
  split
  · split
    · exact s.finishRingFrame_move _
    · exact .refl s
  · exact .refl s

/-- The start of a slot's frame clears the slot's send pending and moves the link. -/
theorem State.startSlotFrame_move (k : SlotId) :
    LinkMove (s.withSlot k { s.slots[k] with sendPending := false }) (s.startSlotFrame k) := by
  refine .trans (.of_blocks rfl) (.of_reports (Reports.of_map (fun e => ?_) _))
  split
  · next on => exact .attached e k on
  · exact .same e

/-- The end of a slot's frame moves the link, and under self-filing its request is then handed on (R58, R96). -/
theorem State.endSlotFrame_move (x : Snapshot) : ∃ u, LinkMove s u ∧
    s.endSlotFrame x = if s.ring.selfFiling then u.handOn (x.filing s.ring.ownAddress) else u := by
  have sent : LinkMove s (s.reportFrameSent x.slot) :=
    .of_reports (Reports.finishWhere .sent (fun _ on => .inr (Entry.attachedOn_attached on)) _)
  exact ⟨_, sent.trans (.of_blocks rfl), rfl⟩

/-- What follows a slot's frame moves the link. -/
theorem State.afterSlotFrame_move : LinkMove s s.afterSlotFrame := by
  unfold State.afterSlotFrame
  split
  · exact s.afterStoppedFrame_move
  · split
    · exact s.await_move _
    · exact .refl s

end
/-! ### The register writes that reach no other block -/

/-- From `s` to `t` only registers that no other block owns have changed. -/
def RegsMove (s t : State) : Prop := t = s.withRegs t.regs

section
variable (s : State)

/-- A register takes its value, or the sticky flag is set. -/
theorem RegsMove.ifRefused (taken : Prop) [Decidable taken] (g : Registers) :
    RegsMove s (if taken then s.withRegs g else s.setRefused) := by
  split <;> rfl

theorem execStatusWrite_regsMove (value : Word) : Ensures (RegsMove s) (execStatusWrite value s) :=
  ensures_hostAccess rfl rfl

theorem execRingGeometryWrite_regsMove (reg : GeometryReg) (value : Word) :
    Ensures (RegsMove s) (execRingGeometryWrite reg value s) :=
  ensures_hostAccess rfl (.ifRefused s _ _)

theorem execCmdTailWrite_regsMove (value : Word) : Ensures (RegsMove s) (execCmdTailWrite value s) :=
  ensures_hostAccess rfl (.ifRefused s _ _)

theorem execNotifyLevelWrite_regsMove (value : Word) : Ensures (RegsMove s) (execNotifyLevelWrite value s) :=
  ensures_hostAccess rfl (.ifRefused s _ _)

theorem execNotifyQuietWrite_regsMove (value : Word) : Ensures (RegsMove s) (execNotifyQuietWrite value s) :=
  ensures_hostAccess rfl (.ifRefused s _ _)

theorem execRegisterWriteOther_regsMove (offset : Nat) (width : AccessWidth) :
    Ensures (RegsMove s) (execRegisterWriteOther offset width s) := by
  refine ensures_hostAccess rfl ?_
  split <;> rfl

end
end Sys2Proof.Machine
end

section
/-!
PROOFS. The slot table, the filing path, the claims and the notice list: every step keeps them as the manual says they
stand (R1 to R5, R9, R44, R45, R57, R153).
-/
namespace Sys2Proof.Machine

/-! ### Slot records -/

/-- The bytes a content of at most 16 bytes leaves are zero beyond its length (R2). -/
theorem padData_zero (bytes : List Byte) (length : Nat) (i : Fin 16) (h : length ≤ i.val) :
    (padData bytes length)[i] = 0 := by
  simp [padData, Nat.not_lt.mpr h]

theorem Slot.ok_powerOn : Slot.powerOn.ok := by
  simp [Slot.ok, Slot.powerOn]

theorem Slot.ok_closed {x : Slot} (h : x.ok) : x.closed.ok := by
  obtain ⟨length, zero, -, -, -, together, -⟩ := h
  exact ⟨length, zero, fun _ => ⟨rfl, rfl, rfl⟩, nofun, nofun, together, nofun⟩

theorem Slot.ok_afterDeviceReset {x : Slot} (h : x.ok) : x.afterDeviceReset.ok := by
  obtain ⟨length, zero, -, -, -, -, -⟩ := h
  exact ⟨length, zero, fun _ => ⟨rfl, rfl, rfl⟩, nofun, nofun, rfl, nofun⟩

theorem Slot.ok_consumed {x : Slot} (h : x.ok) : x.consumed.ok := by
  obtain ⟨length, zero, out, -, publish, together, -⟩ := h
  exact ⟨length, zero, fun o => ⟨rfl, rfl, (out o).2.2⟩, nofun, fun i p => ⟨rfl, (publish i p).2⟩, together, nofun⟩

/-- Send pending may be set on a slot in service, and cleared on any (R5, R14, R15). -/
theorem Slot.ok_sendPending {x : Slot} (h : x.ok) {b : Bool} (set : b = true → x.inService = true) :
    ({ x with sendPending := b } : Slot).ok := by
  obtain ⟨length, zero, out, overrun, publish, together, fresh⟩ := h
  refine ⟨length, zero, fun o => ⟨(out o).1, (out o).2.1, ?_⟩, overrun, publish, together, fresh⟩
  cases b
  · rfl
  · exact absurd (set rfl) (by simp only [show x.inService = false from o]; decide)

/-- A DATA filing leaves a slot that stands as the manual says (R47 to R49). -/
theorem Slot.ok_filed {x : Slot} {source : Addr} {key : Key} {payload : List Byte} {number : Half}
    (takes : x.takesData key = true) (fits : payload.length ≤ 16) : (x.filed source key payload number).ok := by
  simp only [Slot.takesData, Bool.and_eq_true, decide_eq_true_eq] at takes
  obtain ⟨⟨⟨service, subscribe⟩, -⟩, -⟩ := takes
  refine ⟨fits, padData_zero _ _, fun o => ?_, fun _ => rfl, fun _ p => ?_, rfl, fun _ => rfl⟩
  · exact absurd (service.symm.trans o) nofun
  · exact absurd (subscribe.symm.trans p) nofun

theorem Slot.ok_discarded {x : Slot} (h : x.ok) {key : Key} (takes : x.takesData key = true) (f : x.fresh = true) :
    x.discarded.ok := by
  simp only [Slot.takesData, Bool.and_eq_true, decide_eq_true_eq] at takes
  obtain ⟨⟨⟨service, -⟩, -⟩, -⟩ := takes
  obtain ⟨length, zero, out, -, publish, together, fresh⟩ := h
  exact ⟨length, zero, fun o => absurd (service.symm.trans o) nofun, fun _ => f, publish, together, fresh⟩

/-- SETUP of a slot that is not refused (R10, R17). -/
theorem Slot.ok_setUp {x : Slot} (h : x.ok) (g : SetupOperands) : (x.setUp g).ok := by
  obtain ⟨length, zero, -, -, -, together, -⟩ := h
  unfold Slot.setUp
  dsimp only
  split
  · exact ⟨length, zero, fun _ => ⟨rfl, rfl, rfl⟩, nofun, fun _ _ => ⟨rfl, rfl, rfl⟩, rfl, nofun⟩
  · exact ⟨length, zero, fun _ => ⟨rfl, rfl, rfl⟩, nofun, nofun, together, nofun⟩

theorem Slot.ok_setContent {x : Slot} (h : x.ok) {g : ContentOperands} (fits : g.length ≤ 16) :
    (x.setContent g).ok := by
  obtain ⟨-, -, rest⟩ := h
  exact ⟨fits, padData_zero _ _, rest⟩

/-- In service as a STORE leaves it (R12). -/
theorem StoreOperands.apply_inService (o : StoreOperands) (x : Slot) :
    (o.apply x).inService = o.leavesInService x := by
  rw [StoreOperands.apply_eq, StoreOperands.leavesInService]
  cases o.setup <;> rfl

/-- When a STORE is not refused (R10, R12). -/
theorem StoreOperands.refusal_eq_none {o : StoreOperands} {x : Slot} :
    o.refusal x = none ↔ o.slotLive x = false ∧ (o.sendAfter = true → o.leavesInService x = true) := by
  unfold StoreOperands.refusal
  cases o.slotLive x <;> cases o.sendAfter <;> cases o.leavesInService x <;> simp

theorem Slot.ok_ifSetUp {x : Slot} (h : x.ok) (g : Option SetupOperands) :
    (match g with | some g => x.setUp g | none => x).ok := by
  cases g with
  | none => exact h
  | some g => exact Slot.ok_setUp h g

theorem Slot.ok_ifBehaviour {x : Slot} (h : x.ok) (g : Option BehaviourOperands) :
    (match g with | some g => x.setBehaviour g | none => x).ok := by
  cases g <;> exact h

theorem Slot.ok_ifContent {x : Slot} (h : x.ok) (g : Option ContentOperands) (fits : ∀ c, g = some c → c.length ≤ 16) :
    (match g with | some g => x.setContent g | none => x).ok := by
  cases g with
  | none => exact h
  | some g => exact Slot.ok_setContent h (fits g rfl)

theorem Slot.ok_ifConsumed {x : Slot} (h : x.ok) (b : Bool) : (if b then x.consumed else x).ok := by
  split
  · exact Slot.ok_consumed h
  · exact h

theorem Slot.ok_ifSend {x : Slot} (h : x.ok) (b : Bool)
    (service : b = true → (if b then { x with sendPending := true } else x).inService = true) :
    (if b then { x with sendPending := true } else x).ok := by
  cases b with
  | false => exact h
  | true => exact Slot.ok_sendPending h fun _ => service rfl

/-- A STORE that can stand in a record has a length of at most 16 (R129). -/
theorem StoreOperands.content_fits {o : StoreOperands} (wf : (Command.store o).wf = true) (g : ContentOperands)
    (h : o.content = some g) : g.length ≤ 16 := by
  simp only [Command.wf, h, Bool.and_eq_true, decide_eq_true_eq] at wf
  exact wf.1

/-- The slot a STORE leaves stands as the manual says (R130). -/
theorem StoreOperands.apply_ok {o : StoreOperands} {x : Slot} (h : x.ok) (wf : (Command.store o).wf = true)
    (accepted : o.refusal x = none) : (o.apply x).ok := by
  obtain ⟨-, service⟩ := StoreOperands.refusal_eq_none.mp accepted
  have written := Slot.ok_ifContent (Slot.ok_ifBehaviour (Slot.ok_ifSetUp h o.setup) o.behaviour) o.content
    (StoreOperands.content_fits wf)
  exact Slot.ok_ifSend (Slot.ok_ifConsumed written o.clearStatus) o.sendAfter
    fun send => (o.apply_inService x).trans (service send)

/-! ### The slot side: what no row of the other blocks touches -/

/-- The slot table, the filing path, the claims and the notice list stand as the manual says. -/
abbrev State.TableSide (s : State) : Prop := s.tableOk ∧ s.filingOk ∧ s.claimsOk ∧ s.noticesOk

/-- From `s` to `t` nothing has changed that the slot side's invariants speak of. -/
structure SameTable (s t : State) : Prop where
  slots : t.slots = s.slots
  filing : t.filing = s.filing
  claims : t.claims = s.claims
  checked : t.engine.checked = s.engine.checked
  notices : t.events.noticeList = s.events.noticeList

theorem SameTable.keeps {s t : State} (same : SameTable s t) (h : s.TableSide) : t.TableSide := by
  obtain ⟨slots, filing, claims, checked, notices⟩ := same
  simp only [State.TableSide, State.tableOk, State.filingOk, State.claimsOk, State.noticesOk, slots, filing, claims,
    checked, notices]
  exact h

theorem SameTable.refl (s : State) : SameTable s s := ⟨rfl, rfl, rfl, rfl, rfl⟩

theorem LinkMove.sameTable {s t : State} (h : LinkMove s t) : SameTable s t where
  slots := (congrArg State.slots h.frame :)
  filing := (congrArg State.filing h.frame :)
  claims := (congrArg State.claims h.frame :)
  checked := (congrArg (·.engine.checked) h.frame :)
  notices := (congrArg (·.events.noticeList) h.frame :)

namespace State.TableSide

variable {s t : State}

theorem move (h : s.TableSide) (m : LinkMove s t) : t.TableSide := m.sameTable.keeps h

theorem of_same {o : Host.Outcome State Fault Refusal} (h : s.TableSide) (same : Ensures (SameTable s) o) :
    Ensures State.TableSide o := fun t e => (same t e).keeps h

theorem of_move {o : Host.Outcome State Fault Refusal} (h : s.TableSide) (m : Ensures (LinkMove s) o) :
    Ensures State.TableSide o := fun t e => h.move (m t e)

/-! ### Writes to one slot and the notice list -/

/-- A slot may be written when its new record stands as the manual says, and answers a notice it is listed for. -/
theorem withSlot (h : s.TableSide) {k : SlotId} {x : Slot} (ok : x.ok)
    (listed : k ∈ s.events.noticeList → x.inService = true ∧ (x.role = .subscribe → x.fresh = true)) :
    (s.withSlot k x).TableSide := by
  obtain ⟨table, filing, claims, nodup, notices⟩ := h
  refine ⟨fun j => ?_, filing, claims, nodup, fun j hj => ?_⟩
  · by_cases e : k = j
    · subst e; rw [State.withSlot_getSlot]; exact ok
    · rw [State.withSlot_getOther s x e]; exact table j
  · by_cases e : k = j
    · subst e; rw [State.withSlot_getSlot]; exact listed hj
    · rw [State.withSlot_getOther s x e]; exact notices j hj

/-- A slot may leave the notice list (R9). -/
theorem dropNotice (h : s.TableSide) (k : SlotId) : (s.dropNotice k).TableSide := by
  obtain ⟨table, filing, claims, nodup, notices⟩ := h
  exact ⟨table, filing, claims, nodup.filter _, fun j hj => notices j (List.mem_of_mem_filter hj)⟩

/-- A slot that answers a notice may join the notice list (R57). -/
theorem callNotice (h : s.TableSide) {k : SlotId}
    (answers : s.slots[k].inService = true ∧ (s.slots[k].role = .subscribe → s.slots[k].fresh = true)) :
    (s.callNotice k).TableSide := by
  obtain ⟨table, filing, claims, nodup, notices⟩ := h
  refine ⟨table, filing, claims, ?_⟩
  show (joinNotice k s.events.noticeList).Nodup ∧ ∀ j ∈ joinNotice k s.events.noticeList, _
  unfold joinNotice
  split
  · exact ⟨nodup, notices⟩
  · next new =>
    refine ⟨nodup.append (List.nodup_singleton k) (List.disjoint_singleton.mpr new), fun j hj => ?_⟩
    rcases List.mem_append.mp hj with old | last
    · exact notices j old
    · rw [List.mem_singleton.mp last]; exact answers

/-- A write that takes its slot out of the notice list needs only a record as the manual says. -/
theorem withSlot_dropNotice (h : s.TableSide) {k : SlotId} {x : Slot} (ok : x.ok) :
    ((s.withSlot k x).dropNotice k).TableSide :=
  (h.dropNotice k).withSlot ok fun listed => by simp [State.dropNotice, leaveNotice] at listed

/-! ### The claims at the slot table (R9) -/

/-- The executing command's claim is taken or withdrawn as its execution step ends. -/
theorem endCommand (h : s.TableSide) (same : SameTable (s.dropClaim .command) { t with engine.checked := s.engine.checked })
    (ended : t.engine.checked = none) : t.TableSide := by
  obtain ⟨slots, filing, claims, -, notices⟩ := same
  obtain ⟨table, fits, ⟨once, filed, -⟩, listed⟩ := h
  dsimp only at slots filing claims notices
  refine ⟨?_, ?_, ⟨?_, ?_, ?_⟩, ?_⟩
  · rw [State.tableOk, slots]; exact table
  · rw [State.filingOk, filing]; exact fits
  · rw [claims]; exact once.erase _
  · rw [claims, filing]; exact (List.mem_erase_of_ne (by decide)).trans filed
  · rw [claims, ended]; exact iff_of_false once.not_mem_erase nofun
  · rw [State.noticesOk, slots, notices]; exact listed

theorem finishCommand (h : s.TableSide) (kind : EntryKind) (c : Completion) : (s.finishCommand kind c).TableSide :=
  h.endCommand ⟨rfl, rfl, rfl, rfl, rfl⟩ rfl

theorem finishStatus (h : s.TableSide) (st : Status) : (s.finishStatus st).TableSide := h.finishCommand _ _

theorem waitCommand (h : s.TableSide) : s.waitCommand.TableSide := h.endCommand ⟨rfl, rfl, rfl, rfl, rfl⟩ rfl

/-- The event writer's look adds its claim when it has none waiting (R148). -/
theorem lookForNotice (h : s.TableSide) : s.lookForNotice.TableSide := by
  obtain ⟨table, fits, ⟨once, filed, commanded⟩, listed⟩ := h
  rw [State.lookForNotice_eq]
  refine ⟨table, fits, ?_, listed⟩
  split
  · next new =>
    refine ⟨once.append (List.nodup_singleton _) (List.disjoint_singleton.mpr new.2), ?_, ?_⟩
    · simpa using filed
    · simpa using commanded
  · exact ⟨once, filed, commanded⟩

/-- The event writer's claim is taken. -/
theorem dropNoticeClaim (h : s.TableSide) : (s.dropClaim .notice).TableSide := by
  obtain ⟨table, fits, ⟨once, filed, commanded⟩, listed⟩ := h
  exact ⟨table, fits, ⟨once.erase _, (List.mem_erase_of_ne (by decide)).trans filed,
    (List.mem_erase_of_ne (by decide)).trans commanded⟩, listed⟩

/-- A filing request is handed on while the path holds none, its claim behind those waiting (R45). -/
theorem handOn (h : s.TableSide) {r : FilingRequest} (free : s.filing = none) (ok : r.ok = true) :
    (s.handOn r).TableSide := by
  obtain ⟨table, -, ⟨once, filed, commanded⟩, listed⟩ := h
  have new : Claim.filing ∉ s.claims := fun waits => by
    have := filed.mp waits
    rw [free] at this
    exact nomatch this
  refine ⟨table, ok, ⟨once.append (List.nodup_singleton _) (List.disjoint_singleton.mpr new), ?_, ?_⟩, listed⟩
  · simp [State.handOn]
  · simpa [State.handOn] using commanded

/-- The filing request is taken with its claim (R9, R45). -/
theorem takeFiling (h : s.TableSide) : s.takeFiling.TableSide := by
  obtain ⟨table, -, ⟨once, -, commanded⟩, listed⟩ := h
  exact ⟨table, rfl, ⟨once.erase _, iff_of_false once.not_mem_erase nofun,
    (List.mem_erase_of_ne (by decide)).trans commanded⟩, listed⟩

end State.TableSide

/-! ### The operations of the slot table controller -/

/-- A STORE on a slot in service that is not refused and does not close it has no SETUP (R10). -/
theorem StoreOperands.setup_eq_none {o : StoreOperands} {x : Slot} (live : o.slotLive x = false)
    (service : x.inService = true) (stays : o.closes x = false) : o.setup = none := by
  unfold StoreOperands.slotLive at live
  unfold StoreOperands.closes at stays
  cases setup : o.setup with
  | none => rfl
  | some g =>
    simp only [setup, service, Bool.and_true, Bool.not_eq_false'] at live stays
    exact absurd (live.symm.trans stays) nofun

namespace State.TableSide

variable {s : State}

/-- A STORE that is not refused (R130). -/
theorem storeSlot (h : s.TableSide) {o : StoreOperands} (wf : (Command.store o).wf = true)
    (accepted : o.refusal s.slots[o.slot] = none) : (s.storeSlot o).TableSide := by
  have ok := StoreOperands.apply_ok (h.1 o.slot) wf accepted
  have written : (if o.closes s.slots[o.slot] || o.clearStatus then
      (s.withSlot o.slot (o.apply s.slots[o.slot])).dropNotice o.slot
      else s.withSlot o.slot (o.apply s.slots[o.slot])).TableSide := by
    split
    · exact h.withSlot_dropNotice ok
    · next keeps =>
      rw [Bool.not_eq_true, Bool.or_eq_false_iff] at keeps
      obtain ⟨stays, status⟩ := keeps
      refine h.withSlot ok fun listed => ?_
      obtain ⟨service, fresh⟩ := h.2.2.2.2 o.slot listed
      have none : o.setup = none :=
        StoreOperands.setup_eq_none (StoreOperands.refusal_eq_none.mp accepted).1 service stays
      rw [StoreOperands.apply_eq, none, status]
      simpa using ⟨service, fresh⟩
  unfold State.storeSlot
  dsimp only
  split
  · exact SameTable.keeps ⟨rfl, rfl, rfl, rfl, rfl⟩ written
  · exact written

theorem consumeSlot (h : s.TableSide) (k : SlotId) : (s.consumeSlot k).TableSide :=
  h.withSlot_dropNotice (Slot.ok_consumed (h.1 k))

/-- A change of send pending alone answers the notices the slot answered. -/
theorem withSendPending (h : s.TableSide) (k : SlotId) {b : Bool} (set : b = true → s.slots[k].inService = true) :
    (s.withSlot k { s.slots[k] with sendPending := b }).TableSide :=
  h.withSlot (Slot.ok_sendPending (h.1 k) set) (h.2.2.2.2 k)

theorem setPending (h : s.TableSide) {k : SlotId} (service : s.slots[k].inService = true) : (s.setPending k).TableSide :=
  h.withSendPending k fun _ => service

theorem clearPending (h : s.TableSide) (k : SlotId) : (s.clearPending k).TableSide :=
  SameTable.keeps ⟨rfl, rfl, rfl, rfl, rfl⟩ (h.withSendPending (b := false) k nofun)

theorem clearTable (h : s.TableSide) : s.clearTable.TableSide := by
  obtain ⟨table, fits, claims, -⟩ := h
  refine ⟨fun k => ?_, fits, claims, List.nodup_nil, nofun⟩
  show (s.slots.map Slot.closed)[k].ok
  rw [Fin.getElem_fin, Vector.getElem_map]
  exact Slot.ok_closed (table k)

/-- A DATA filing of at most 16 bytes (R47 to R53). -/
theorem fileData (h : s.TableSide) (source : Addr) (key : Key) {payload : List Byte} (fits : payload.length ≤ 16) :
    (s.fileData source key payload).TableSide := by
  unfold State.fileData
  split
  · exact h
  · next k found =>
    have takes := firstSlot_meets found
    have service : s.slots[k].inService = true := by
      simp only [Slot.takesData, Bool.and_eq_true] at takes
      exact takes.1.1.1
    have filed (x : Slot) (n : Half) (ok : x.ok) (serves : x.inService = true) (fresh : x.fresh = true) :
        (if s.slots[k].notify then ((s.withSlot k x).withFilingCounter n).callNotice k
          else (s.withSlot k x).withFilingCounter n).TableSide := by
      have written : ((s.withSlot k x).withFilingCounter n).TableSide :=
        SameTable.keeps ⟨rfl, rfl, rfl, rfl, rfl⟩ (h.withSlot ok fun _ => ⟨serves, fun _ => fresh⟩)
      split
      · refine written.callNotice ?_
        rw [State.withFilingCounter_slots, State.withSlot_getSlot]
        exact ⟨serves, fun _ => fresh⟩
      · exact written
    dsimp only
    by_cases keep : (s.slots[k].fresh && s.slots[k].keepFirst) = true
    · have fresh : s.slots[k].fresh = true := (Bool.and_eq_true_iff.mp keep).1
      simp only [if_pos keep]
      exact filed _ s.filingCounter (Slot.ok_discarded (h.1 k) takes fresh) service fresh
    · simp only [if_neg keep]
      exact filed _ (s.filingCounter + 1) (Slot.ok_filed takes fits) service rfl

/-- A SOLICIT filing (R54 to R56). -/
theorem fileSolicit (h : s.TableSide) (key : Key) : (s.fileSolicit key).TableSide := by
  unfold State.fileSolicit
  split
  · exact h
  · next k found =>
    have takes := firstSlot_meets found
    simp only [Slot.takesSolicit, Bool.and_eq_true, decide_eq_true_eq] at takes
    obtain ⟨⟨service, publish⟩, -⟩ := takes
    split
    · exact h.setPending service
    · split
      · exact h.callNotice ⟨service, fun subscribe => absurd (publish.symm.trans subscribe) nofun⟩
      · exact h

end State.TableSide

/-! ### The rows -/

section
variable {s : State}

theorem State.dropTaking_sameTable : SameTable s (s.withEngine s.engine.dropTaking) := ⟨rfl, rfl, rfl, rfl, rfl⟩

theorem State.readFailed_sameTable : SameTable s s.readFailed := by
  unfold State.readFailed
  split <;> exact ⟨rfl, rfl, rfl, rfl, rfl⟩

theorem State.writeFailed_sameTable : SameTable s s.writeFailed := by
  unfold State.writeFailed
  dsimp only
  split <;> exact ⟨rfl, rfl, rfl, rfl, rfl⟩

/-- The run bit changes nothing of the slot side but the event writer's claim (R109, R110, R148). -/
theorem State.TableSide.controlRun (h : s.TableSide) (run : Bool) : (s.controlRun run).TableSide := by
  unfold State.controlRun
  split
  · split
    · split
      · exact SameTable.keeps ⟨rfl, rfl, rfl, rfl, rfl⟩ h
      · exact State.TableSide.lookForNotice (SameTable.keeps ⟨rfl, rfl, rfl, rfl, rfl⟩ h)
    · exact h
  · split
    · exact h
    · exact SameTable.keeps ⟨rfl, rfl, rfl, rfl, rfl⟩ h
  · exact SameTable.keeps ⟨rfl, rfl, rfl, rfl, rfl⟩ h

/-- The resets empty the slot side, device reset keeping each slot's configuration and content (R23, R24). -/
theorem State.powerOn_tableSide : s.powerOn.TableSide := by
  refine ⟨fun k => ?_, rfl, ⟨List.nodup_nil, by simp [State.powerOn, State.reset],
    by simp [State.powerOn, State.reset, Engine.atReset]⟩, List.nodup_nil, nofun⟩
  show (Vector.replicate 64 Slot.powerOn)[k].ok
  rw [Fin.getElem_fin, Vector.getElem_replicate]
  exact Slot.ok_powerOn

/-- A pulse that does not reset the part cuts a frame short and touches nothing of the slot side (log 11). -/
theorem State.cutFrame_sameTable : SameTable s s.drawFree.cutFrame.lowerReset := by
  unfold State.cutFrame
  split <;> exact ⟨rfl, rfl, rfl, rfl, rfl⟩

theorem State.TableSide.afterDeviceReset (h : s.TableSide) : s.afterDeviceReset.TableSide := by
  refine ⟨fun k => ?_, rfl, ⟨List.nodup_nil, by simp [State.afterDeviceReset, State.reset],
    by simp [State.afterDeviceReset, State.reset, Engine.atReset]⟩, List.nodup_nil, nofun⟩
  show (s.slots.map Slot.afterDeviceReset)[k].ok
  rw [Fin.getElem_fin, Vector.getElem_map]
  exact Slot.ok_afterDeviceReset (h.1 k)

/-- An accepted record's command claims its slot work when no other command stands (R9, R113). -/
theorem State.TableSide.accept (h : s.TableSide) (free : s.engine.checked = none) (r : List Byte) (c : Command) :
    ((s.withEngine (s.engine.acceptRecord r c)).claimFor c).TableSide := by
  obtain ⟨table, fits, ⟨once, filed, commanded⟩, listed⟩ := h
  have new : Claim.command ∉ s.claims := fun waits => by
    have := commanded.mp waits
    rw [free] at this
    exact nomatch this
  unfold State.claimFor
  split
  · next uses =>
    refine ⟨table, fits, ⟨once.append (List.nodup_singleton _) (List.disjoint_singleton.mpr new), ?_, ?_⟩, listed⟩
    · simpa using filed
    · simp [Engine.acceptRecord, uses]
  · next idle =>
    refine ⟨table, fits, ⟨once, filed, iff_of_false new ?_⟩, listed⟩
    simpa [Engine.acceptRecord] using idle

theorem State.TableSide.endTake (h : s.TableSide) (free : s.engine.checked = none) (read : CommandRead)
    (record : List Byte) : (s.endTake read record).TableSide := by
  have advanced : (s.withEngine (s.engine.advance s.regs.cmdRingSize)).TableSide :=
    SameTable.keeps ⟨rfl, rfl, rfl, rfl, rfl⟩ h
  unfold State.endTake State.checkTaken
  split
  · exact State.dropTaking_sameTable.keeps h
  · split
    · exact SameTable.keeps ⟨rfl, rfl, rfl, rfl, rfl⟩ advanced
    · exact advanced.accept free record _

/-- An arrival, and the filing request of its frame (R44). -/
theorem State.TableSide.arriveAndFile (h : s.TableSide) (a : Arrival) {r : FilingRequest} (ok : r.ok = true) :
    (s.arriveAndFile a r).TableSide := by
  unfold State.arriveAndFile
  split
  · next due =>
    have free : s.filing = none := by simpa using (Bool.and_eq_true_iff.mp due).2
    exact (h.move (s.arrive_move a)).handOn ((s.arrive_move a).sameTable.filing.trans free) ok
  · exact h

/-- A self-filed frame is one R44 admits. -/
theorem Snapshot.filing_ok (x : Snapshot) (own : Addr) : (x.filing own).ok = true := by
  unfold Snapshot.filing
  split
  · simp [FilingRequest.ok]
  · rfl

theorem execFrameEnd_tableSide (h : s.TableSide) : Ensures State.TableSide (execFrameEnd s) := by
  rw [execFrameEnd, ensures_next]
  split
  · next x _ =>
    split
    · next due =>
      obtain ⟨u, moved, ended⟩ := s.endSlotFrame_move x
      have after : (s.endSlotFrame x).TableSide := by
        rw [ended]
        split
        · next self =>
          have free : s.filing = none := by
            simpa [State.frameEndDue, self] using (Bool.and_eq_true_iff.mp due).2
          exact (h.move moved).handOn (moved.sameTable.filing.trans free) (x.filing_ok _)
        · exact h.move moved
      exact after.move (State.afterSlotFrame_move _).reported
    · exact h
  · exact h

theorem execFileData_tableSide (h : s.TableSide) : Ensures State.TableSide (execFileData s) := by
  rw [execFileData, ensures_next]
  split
  · next source key payload request =>
    split
    · have admitted : s.filing.all FilingRequest.ok = true := h.2.1
      rw [request] at admitted
      have fits : payload.length ≤ 16 := of_decide_eq_true admitted
      exact (h.takeFiling.fileData source key fits).lookForNotice
    · exact h
  · exact h

theorem execFileSolicit_tableSide (h : s.TableSide) : Ensures State.TableSide (execFileSolicit s) := by
  rw [execFileSolicit, ensures_next]
  split
  · split
    · exact (h.takeFiling.fileSolicit _).lookForNotice
    · exact h
  · exact h

theorem execStore_tableSide (h : s.TableSide) (wf : ∀ c, s.engine.checked = some c → c.wf = true) :
    Ensures State.TableSide (execStore s) := by
  rw [execStore, ensures_next]
  split
  · next o checked =>
    split
    · unfold State.runStore
      split
      · exact h.finishStatus _
      · next accepted => exact (h.storeSlot (wf _ checked) accepted).finishStatus _
    · exact h
  · exact h

theorem execFetch_tableSide (h : s.TableSide) : Ensures State.TableSide (execFetch s) := by
  rw [execFetch, ensures_next]
  split
  · split
    · unfold State.runFetch
      split
      · exact (h.consumeSlot _).finishCommand _ _
      · exact h.finishCommand _ _
    · exact h
  · exact h

theorem State.TableSide.runSend (h : s.TableSide) (k : SlotId) (confirm : Bool) : (s.runSend k confirm).TableSide := by
  unfold State.runSend State.runConfirm
  split
  · exact h.finishStatus _
  · split
    · exact h.finishStatus _
    · next serves =>
      have service : s.slots[k].inService = true := by simpa using serves
      split
      · split
        · exact (h.setPending service).finishCommand _ _
        · exact (h.setPending service).waitCommand
      · exact (h.setPending service).finishStatus _

theorem execSend_tableSide (h : s.TableSide) : Ensures State.TableSide (execSend s) := by
  rw [execSend, ensures_next]
  split
  · split
    · exact h.runSend _ _
    · exact h
  · exact h

theorem execCancel_tableSide (h : s.TableSide) : Ensures State.TableSide (execCancel s) := by
  rw [execCancel, ensures_next]
  split
  · split
    · exact (h.clearPending _).finishCommand _ _
    · exact h
  · exact h

theorem execTableClear_tableSide (h : s.TableSide) : Ensures State.TableSide (execTableClear s) := by
  rw [execTableClear, ensures_next]
  split
  · split
    · exact h.clearTable.finishStatus _
    · exact h
  · exact h

theorem execFindAndSnapshot_tableSide (h : s.TableSide) : Ensures State.TableSide (execFindAndSnapshot s) := by
  rw [execFindAndSnapshot, ensures_next]
  split
  · split
    · exact (h.withSendPending (b := false) _ nofun).move (s.startSlotFrame_move _)
    · exact h.move s.sendingEnded_move.reported
  · exact h

theorem State.TableSide.runLinkStart (h : s.TableSide) (o : LinkOptions) : (s.runLinkStart o).TableSide := by
  unfold State.runLinkStart
  split
  · exact (h.move (s.startLink_move o)).finishStatus _
  · exact h.finishStatus _

theorem State.TableSide.runLinkStop (h : s.TableSide) : s.runLinkStop.TableSide := by
  unfold State.runLinkStop
  split
  · exact h.finishStatus _
  · split
    · exact h.finishCommand _ _
    · exact h.waitCommand.move (State.stopLink_move _).reported

theorem State.TableSide.runBarrier (h : s.TableSide) : s.runBarrier.TableSide := by
  unfold State.runBarrier
  split
  · exact h.finishStatus _
  · split
    · exact h.finishCommand _ _
    · exact h.waitCommand

theorem State.readRing_sameTable : SameTable s s.readRing := by
  unfold State.readRing
  split <;> exact ⟨rfl, rfl, rfl, rfl, rfl⟩

theorem State.readCounter_sameTable : SameTable s s.readCounter := by
  unfold State.readCounter
  split <;> exact ⟨rfl, rfl, rfl, rfl, rfl⟩

theorem State.readCursor_sameTable : SameTable s s.readCursor := by
  unfold State.readCursor
  split <;> exact ⟨rfl, rfl, rfl, rfl, rfl⟩

theorem State.TableSide.readPart (h : s.TableSide) (part : MapPart) : (s.readPart part).TableSide := by
  cases part with
  | ring => exact s.readRing_sameTable.keeps h
  | table => exact s.readCounter_sameTable.keeps h
  | scheduler => exact s.readCursor_sameTable.keeps h
  | rest => exact (State.readCursor_sameTable).keeps ((State.readCounter_sameTable).keeps (s.readRing_sameTable.keeps h))

theorem State.TableSide.endMapRead (h : s.TableSide) : s.endMapRead.TableSide := by
  unfold State.endMapRead
  split
  · exact h.finishCommand _ _
  · exact h

/-- The rows of a taken command that do no slot work. -/
theorem execNop_tableSide (h : s.TableSide) : Ensures State.TableSide (execNop s) := by
  rw [execNop, ensures_next]
  split
  · exact h.finishStatus _
  · exact h

theorem execLinkStart_tableSide (h : s.TableSide) : Ensures State.TableSide (execLinkStart s) := by
  rw [execLinkStart, ensures_next]
  split
  · exact h.runLinkStart _
  · exact h

theorem execLinkStop_tableSide (h : s.TableSide) : Ensures State.TableSide (execLinkStop s) := by
  rw [execLinkStop, ensures_next]
  split
  · exact h.runLinkStop
  · exact h

theorem execMapRead_tableSide (h : s.TableSide) (part : MapPart) : Ensures State.TableSide (execMapRead part s) := by
  rw [execMapRead, ensures_next]
  split
  · exact (h.readPart part).endMapRead
  · exact h

theorem execBarrier_tableSide (h : s.TableSide) : Ensures State.TableSide (execBarrier s) := by
  rw [execBarrier, ensures_next]
  split
  · exact h.runBarrier
  · exact h

/-! ### The rows of the event writer -/

theorem State.beginWrite_sameTable (record : List Byte) (source : EventSource) :
    SameTable s (s.beginWrite record source) := ⟨rfl, rfl, rfl, rfl, rfl⟩

theorem State.beginCompletion_sameTable (position : Nat) : SameTable s (s.beginCompletion position) := by
  unfold State.beginCompletion
  split
  · split
    · exact s.beginWrite_sameTable _ _
    · exact .refl s
  · exact .refl s

theorem execCompletionWrite_sameTable : Ensures (SameTable s) (execCompletionWrite s) := by
  rw [execCompletionWrite, ensures_next]
  split
  · split
    · exact s.beginCompletion_sameTable _
    · exact .refl s
  · exact .refl s

theorem execLinkNoticeWrite_sameTable : Ensures (SameTable s) (execLinkNoticeWrite s) := by
  rw [execLinkNoticeWrite, ensures_next]
  split
  · split
    · exact ⟨rfl, rfl, rfl, rfl, rfl⟩
    · exact .refl s
  · exact .refl s

theorem State.TableSide.readFront (h : s.TableSide) : s.readFront.TableSide := by
  unfold State.readFront
  split
  · next k rest list =>
    split
    · obtain ⟨table, fits, claims, nodup, listed⟩ := h
      rw [list] at nodup listed
      exact ⟨table, fits, claims, nodup.of_cons, fun j hj => listed j (List.mem_cons_of_mem k hj)⟩
    · exact h
  · exact h

theorem execReadForNotice_tableSide (h : s.TableSide) : Ensures State.TableSide (execReadForNotice s) := by
  rw [execReadForNotice, ensures_next]
  split
  · exact h.dropNoticeClaim.readFront
  · exact h

theorem State.TableSide.writeEnded (h : s.TableSide) (w : EventWrite) : (s.writeEnded w).TableSide := by
  unfold State.writeEnded
  dsimp only
  refine State.TableSide.lookForNotice ?_
  split <;> exact SameTable.keeps ⟨rfl, rfl, rfl, rfl, rfl⟩ h

theorem execEventWriteDone_tableSide (h : s.TableSide) (access : Nat) :
    Ensures State.TableSide (execEventWriteDone access s) := by
  rw [execEventWriteDone, ensures_next]
  split
  · exact h
  · split
    · exact h.writeEnded _
    · exact h

theorem execBusResponseTimeout_sameTable (access : BusAccess) :
    Ensures (SameTable s) (execBusResponseTimeout access s) := by
  rw [execBusResponseTimeout.eq_def, ensures_next]
  split
  · cases access with
    | commandRead => exact s.readFailed_sameTable
    | eventWrite => exact s.writeFailed_sameTable
  · exact .refl s

theorem execTakeEnd_tableSide (h : s.TableSide) (free : s.engine.cmdRead.isSome = true → s.engine.checked = none)
    (access : Nat) (record : List Byte) : Ensures State.TableSide (execTakeEnd access record s) := by
  rw [execTakeEnd, ensures_next]
  split
  · exact h
  · next read reading =>
    split
    · exact h.endTake (free (by rw [reading]; rfl)) read record
    · exact h

theorem execPowerOnReset_tableSide (h : s.TableSide) (cause : ResetCause) :
    Ensures State.TableSide (execPowerOnReset cause s) := by
  unfold execPowerOnReset
  split
  · exact ensures_next.mpr s.powerOn_tableSide
  · split
    · exact ensures_next.mpr s.powerOn_tableSide
    · split
      · exact ensures_next.mpr (State.powerOn_tableSide)
      · exact ensures_next.mpr (State.cutFrame_sameTable.keeps h)

/-- A register write that reaches no other block. -/
theorem State.TableSide.of_regs (h : s.TableSide) {o : Host.Outcome State Fault Refusal} (m : Ensures (RegsMove s) o) :
    Ensures State.TableSide o := h.of_same fun t e => by
  rw [show t = s.withRegs t.regs from m t e]
  exact ⟨rfl, rfl, rfl, rfl, rfl⟩

theorem execEvtHeadWrite_tableSide (h : s.TableSide) (value : Word) :
    Ensures State.TableSide (execEvtHeadWrite value s) := by
  refine ensures_hostAccess h ?_
  split
  · exact State.TableSide.lookForNotice (SameTable.keeps ⟨rfl, rfl, rfl, rfl, rfl⟩ h)
  · exact SameTable.keeps ⟨rfl, rfl, rfl, rfl, rfl⟩ h

/-- Engine reset keeps the claims, the checked command and the notice list (R122, R159). -/
theorem execEngineReset_tableSide (h : s.TableSide) (run : Bool) : Ensures State.TableSide (execEngineReset run s) :=
  ensures_hostAccess h
    (State.TableSide.controlRun (s := s.afterEngineReset) (SameTable.keeps ⟨rfl, rfl, rfl, rfl, rfl⟩ h) run)

theorem execTakeBegin_sameTable : Ensures (SameTable s) (execTakeBegin s) := by
  rw [execTakeBegin, ensures_next]
  split <;> exact ⟨rfl, rfl, rfl, rfl, rfl⟩

theorem execCqReadFail_sameTable (access : Nat) : Ensures (SameTable s) (execCqReadFail access s) := by
  rw [execCqReadFail, ensures_next]
  split
  · exact s.readFailed_sameTable
  · exact .refl s

theorem execEventWriteFail_sameTable (access : Nat) : Ensures (SameTable s) (execEventWriteFail access s) := by
  rw [execEventWriteFail, ensures_next]
  split
  · exact s.writeFailed_sameTable
  · exact .refl s

theorem execDataFrame_tableSide (h : s.TableSide) (source : Addr) (key : Key) (payload : List Byte) :
    Ensures State.TableSide (execDataFrame source key payload s) := by
  rw [execDataFrame, ensures_next]
  split
  · next fits => exact h.arriveAndFile _ (decide_eq_true fits)
  · exact h.move (s.arrive_move _)

/-! ### Every row keeps the slot side -/

theorem exec_keeps_tableSide (inv : s.Inv) (c : Instr) : Ensures State.TableSide (exec c s) := by
  obtain ⟨(h : s.TableSide), ⟨-, -, ⟨-, -, free, -, checked⟩, -, -, -, -⟩, -, -, -⟩ := inv
  have wf : ∀ c, s.engine.checked = some c → c.wf = true := fun c hc => by
    rw [hc] at checked
    exact (Bool.and_eq_true_iff.mp checked).1
  cases c with
  | powerOnReset cause => exact execPowerOnReset_tableSide h cause
  | deviceReset => exact ensures_hostAccess h h.afterDeviceReset
  | engineReset run => exact execEngineReset_tableSide h run
  | runSet => exact ensures_hostAccess h (h.controlRun true)
  | runClear => exact ensures_hostAccess h (h.controlRun false)
  | statusWrite value => exact h.of_regs (execStatusWrite_regsMove s value)
  | ringGeometryWrite reg value => exact h.of_regs (execRingGeometryWrite_regsMove s reg value)
  | cmdTailWrite value => exact h.of_regs (execCmdTailWrite_regsMove s value)
  | evtHeadWrite value => exact execEvtHeadWrite_tableSide h value
  | notifyLevelWrite value => exact h.of_regs (execNotifyLevelWrite_regsMove s value)
  | notifyQuietWrite value => exact h.of_regs (execNotifyQuietWrite_regsMove s value)
  | registerWriteOther offset width => exact h.of_regs (execRegisterWriteOther_regsMove s offset width)
  | takeBegin => exact h.of_same execTakeBegin_sameTable
  | cqReadFail access => exact h.of_same (execCqReadFail_sameTable access)
  | nop => exact execNop_tableSide h
  | store => exact execStore_tableSide h wf
  | fetch => exact execFetch_tableSide h
  | send => exact execSend_tableSide h
  | cancel => exact execCancel_tableSide h
  | tableClear => exact execTableClear_tableSide h
  | linkStart => exact execLinkStart_tableSide h
  | linkStop => exact execLinkStop_tableSide h
  | mapRead part => exact execMapRead_tableSide h part
  | barrier => exact execBarrier_tableSide h
  | completionWrite => exact h.of_same execCompletionWrite_sameTable
  | linkNoticeWrite => exact h.of_same execLinkNoticeWrite_sameTable
  | readForNotice => exact execReadForNotice_tableSide h
  | eventWriteDone access => exact execEventWriteDone_tableSide h access
  | eventWriteFail access => exact h.of_same (execEventWriteFail_sameTable access)
  | busResponseTimeout access => exact h.of_same (execBusResponseTimeout_sameTable access)
  | quietTimerExpiry => exact ensures_next.mpr (SameTable.keeps ⟨rfl, rfl, rfl, rfl, rfl⟩ h)
  | activityStart clocks => exact h.of_move (execActivityStart_move s clocks)
  | dataFrame source key payload => exact execDataFrame_tableSide h source key payload
  | solicitFrame source key => exact ensures_next.mpr (h.arriveAndFile _ rfl)
  | tokenFrame source d | inviteFrame source d | joinFrame source d =>
    exact ensures_next.mpr (h.move (s.arriveAddressed_move d _))
  | claimFrame | foreignFrame | garbledFrame => exact ensures_next.mpr (h.move (s.arrive_move _))
  | fileData => exact execFileData_tableSide h
  | fileSolicit => exact execFileSolicit_tableSide h
  | silenceTimeout => exact h.of_move (execSilenceTimeout_move s)
  | responseWindowExpiry => exact h.of_move (execResponseWindowExpiry_move s)
  | lonePauseEnd => exact h.of_move (execLonePauseEnd_move s)
  | sendOpportunity => exact h.of_move (execSendOpportunity_move s)
  | findAndSnapshot => exact execFindAndSnapshot_tableSide h
  | ringFrameStart => exact h.of_move (execRingFrameStart_move s)
  | frameEnd => exact execFrameEnd_tableSide h
  | ringFrameEnd => exact h.of_move (execRingFrameEnd_move s)
  | takeEnd access record => exact execTakeEnd_tableSide h free access record
  | leaveReset => exact ensures_next.mpr (SameTable.keeps ⟨rfl, rfl, rfl, rfl, rfl⟩ h)

end

/-! ### The statement -/

/-- One clock touches nothing of the slot side. -/
theorem State.tick_sameTable (s : State) : SameTable s s.tick := by
  unfold State.tick
  split <;> exact ⟨rfl, rfl, rfl, rfl, rfl⟩

/-- A step keeps what every row keeps and one clock keeps: the queue itself is no part of the invariants. -/
theorem step_ensures {P : State → Prop} {s : State} (inv : s.Inv)
    (row : ∀ c (u : State), u.Inv → Ensures P (exec c u)) (clock : P s.tick) : Ensures P (step s) := by
  unfold step
  split
  · split
    · exact row _ s inv
    · exact ensures_next.mpr clock
  · exact row _ (s.withPending _) inv

/-- Settles O58: the slot side under every row, and under the clock. -/
theorem stepKeepsSlotTable : Obligations.StepKeepsSlotTable := by
  unfold Obligations.StepKeepsSlotTable
  intro s t inv stepped
  exact step_ensures inv (fun c _ inv => exec_keeps_tableSide inv c) (s.tick_sameTable.keeps inv.1) t stepped

end Sys2Proof.Machine
end

section
/-!
PROOFS. The queue engine and the event writer: every step keeps the open list, the take under way, the write in flight,
the credits and the registers in order (R106, R108, R111, R115 to R119, R149, R158).
-/
namespace Sys2Proof.Machine

/-! ### What a report keeps of an entry -/

namespace Entry.Reported

variable {e f : Entry}

theorem isTaking (h : Reported e f) : f.isTaking = e.isTaking := by
  cases h with
  | same => rfl
  | finished st waits => rcases waits with w | w <;> simp [Entry.isTaking, Entry.finish, w]
  | attached k on => simp [Entry.isTaking, Entry.waitsOn_waiting on]

theorem kind (h : Reported e f) : f.kind = e.kind := by cases h <;> rfl

theorem code (h : Reported e f) : f.code = e.code := by cases h <;> rfl

theorem slot (h : Reported e f) : f.slot = e.slot := by cases h <;> rfl

/-- A done entry gets no report. -/
theorem completion (h : Reported e f) {c : Completion} (done : e.completion = some c) : f.completion = some c := by
  cases h with
  | same => exact done
  | finished st waits => rcases waits with w | w <;> simp [Entry.completion, w] at done
  | attached k on => simp [Entry.completion, Entry.waitsOn_waiting on] at done

/-- No report makes an entry wait. -/
theorem waitsAs (h : Reported e f) {c : CommandCode} (waits : f.waitsAs c = true) : e.waitsAs c = true := by
  cases h with
  | same => exact waits
  | finished st _ => simp [Entry.waitsAs, Entry.finish] at waits
  | attached k _ => simp [Entry.waitsAs] at waits

/-- R115 admits an entry after its report. -/
theorem ok (h : Reported e f) (ok : e.ok = true) : f.ok = true := by
  cases h with
  | same => exact ok
  | finished st waits =>
    simp only [Entry.ok, Bool.and_eq_true] at ok
    simp [Entry.ok, Entry.finish] at ok ⊢
    exact decide_eq_true ok.1
  | attached k on =>
    have code : e.code = CommandCode.send.byte ∧ e.slot = some k := by
      simpa [Entry.waitsOn, Entry.waitsAs, Entry.waitsOn_waiting on] using on
    have waiting := Entry.waitsOn_waiting on
    simp only [Entry.ok, waiting, Bool.and_eq_true, decide_eq_true_eq] at ok ⊢
    exact ⟨ok.1, ⟨ok.2.1, code.1⟩, by rw [code.2]; rfl⟩

end Entry.Reported

/-! ### The open list (R115 to R119) -/

/-- At most 16 entries, at most 15 of them long, each one that R115 admits. -/
structure ListFits (l : List Entry) : Prop where
  few : l.length ≤ Config.maxOpen
  long : longCount l ≤ Config.maxLong
  entries : ∀ x ∈ l, x.ok = true

/-- No BARRIER waits with no earlier entry (R117). -/
abbrev NoBarrierFirst (l : List Entry) : Prop := l.head?.all (fun x => !x.waitsAs .barrier) = true

theorem Engine.listOk_iff (e : Engine) :
    e.listOk ↔ e.credits = e.openList.length ∧ ListFits e.openList ∧ NoBarrierFirst e.openList :=
  ⟨fun ⟨a, b, c, d, f⟩ => ⟨a, ⟨b, c, d⟩, f⟩, fun ⟨a, ⟨b, c, d⟩, f⟩ => ⟨a, b, c, d, f⟩⟩

theorem Reports.longCount {l m : List Entry} (h : Reports l m) : longCount m = longCount l := by
  induction h with
  | nil => rfl
  | cons head _ ih =>
    simp only [Machine.longCount, List.countP_cons] at ih ⊢
    rw [ih, Entry.isLong, Entry.isLong, head.kind]

theorem Reports.concat {l m : List Entry} (h : Reports l m) (e : Entry) : Reports (l ++ [e]) (m ++ [e]) :=
  List.rel_append h (Reports.refl [e])

/-- A BARRIER left first is done by a report (R117). -/
theorem Reports.release (l : List Entry) : Reports l (releaseBarrier l) := by
  cases l with
  | nil => exact .nil
  | cons e rest =>
    refine .cons ?_ (Reports.refl rest)
    split
    · next waits => exact .finished e .ok (.inl (Entry.waitsAs_waiting waits))
    · exact .same e

theorem ListFits.reports {l m : List Entry} (h : ListFits l) (r : Reports l m) : ListFits m where
  few := r.length_eq ▸ h.few
  long := r.longCount ▸ h.long
  entries := by
    obtain ⟨-, -, entries⟩ := h
    induction r with
    | nil => exact entries
    | cons head _ ih =>
      rw [List.forall_mem_cons] at entries ⊢
      exact ⟨head.ok entries.1, ih entries.2⟩

theorem ListFits.sublist {l m : List Entry} (h : ListFits l) (sub : m.Sublist l) : ListFits m where
  few := sub.length_le.trans h.few
  long := sub.countP_le.trans h.long
  entries := fun x hx => h.entries x (sub.subset hx)

/-- An entry that R115 admits may stand last where there is room. -/
theorem ListFits.concat {init : List Entry} {last : Entry} (h : ListFits init) (few : init.length < Config.maxOpen)
    (long : longCount init + longCount [last] ≤ Config.maxLong) (ok : last.ok = true) : ListFits (init ++ [last]) where
  few := by rw [List.length_append]; exact few
  long := by rw [longCount_append]; exact long
  entries := fun x hx => by
    rcases List.mem_append.mp hx with old | new
    · exact h.entries x old
    · rw [List.mem_singleton.mp new]; exact ok

theorem NoBarrierFirst.reports {l m : List Entry} (h : NoBarrierFirst l) (r : Reports l m) : NoBarrierFirst m := by
  cases r with
  | nil => rfl
  | cons head _ =>
    simp only [NoBarrierFirst, List.head?_cons, Option.all_some, Bool.not_eq_true', ← Bool.not_eq_true] at h ⊢
    exact fun waits => h (head.waitsAs waits)

theorem NoBarrierFirst.release (l : List Entry) : NoBarrierFirst (releaseBarrier l) := by
  cases l with
  | nil => rfl
  | cons e rest =>
    simp only [NoBarrierFirst, releaseBarrier, List.head?_cons, Option.all_some, Bool.not_eq_true']
    split
    · simp [Entry.waitsAs, Entry.finish]
    · next waits => simpa using waits

theorem NoBarrierFirst.concat {init : List Entry} {last : Entry} (h : NoBarrierFirst init)
    (alone : init = [] → last.waitsAs .barrier = false) : NoBarrierFirst (init ++ [last]) := by
  cases init with
  | nil => simp [NoBarrierFirst, alone rfl]
  | cons e rest => exact h

theorem NoBarrierFirst.of_concat {init : List Entry} {last : Entry} (h : NoBarrierFirst (init ++ [last])) :
    NoBarrierFirst init := by
  cases init with
  | nil => rfl
  | cons e rest => exact h

/-! ### The entry of the take under way (R111) -/

/-- No entry is in state taking. -/
abbrev NoneTaking (l : List Entry) : Prop := ∀ x ∈ l, x.isTaking = false

theorem NoneTaking.filter {l : List Entry} (h : NoneTaking l) : (l.filter fun x => !x.isTaking) = l :=
  List.filter_eq_self.mpr fun x hx => by rw [h x hx]; rfl

theorem NoneTaking.map {l : List Entry} (h : NoneTaking l) (f : Entry → Entry) :
    (l.map fun e => if e.isTaking then f e else e) = l :=
  (List.map_congr_left fun x hx => by rw [h x hx]; rfl).trans l.map_id

theorem NoneTaking.reports {l m : List Entry} (h : NoneTaking l) (r : Reports l m) : NoneTaking m := by
  induction r with
  | nil => exact h
  | cons head _ ih =>
    rw [NoneTaking, List.forall_mem_cons] at h ⊢
    exact ⟨head.isTaking.trans h.1, ih h.2⟩

/-- Where the entries of a list stand that only its last can be taking. -/
theorem taking_cases {l : List Entry} (before : (l.dropLast.all fun x => !x.isTaking) = true) :
    NoneTaking l ∧ l.getLast?.any Entry.isTaking = false ∨
      ∃ init last, l = init ++ [last] ∧ NoneTaking init ∧ last.isTaking = true := by
  rcases List.eq_nil_or_concat' l with rfl | ⟨init, last, rfl⟩
  · exact .inl ⟨fun _ hx => absurd hx List.not_mem_nil, by simp⟩
  · rw [List.dropLast_concat, List.all_eq_true] at before
    have none : NoneTaking init := fun x hx => by simpa using before x hx
    cases taking : last.isTaking with
    | true => exact .inr ⟨init, last, rfl, none, taking⟩
    | false =>
      refine .inl ⟨fun x hx => ?_, by simp [taking]⟩
      rcases List.mem_append.mp hx with old | new
      · exact none x old
      · rw [List.mem_singleton.mp new]; exact taking

/-! ### The invariants of the engine and the event writer together -/

/-- The queue engine and the event writer stand as the manual says. -/
abbrev State.EngineSide (s : State) : Prop :=
  s.engine.stateOk ∧ s.engine.listOk ∧ s.engine.takeOk ∧ s.writeOk = true ∧ s.accessesOk ∧ s.creditsOk ∧ s.registersOk

/-- What a list shows of the take under way: which entries are taking, with what code and slot. -/
abbrev takeView (l : List Entry) : List (Bool × Byte × Option SlotId) := l.map fun e => (e.isTaking, e.code, e.slot)

theorem Reports.takeView {l m : List Entry} (h : Reports l m) : takeView m = takeView l := by
  induction h with
  | nil => rfl
  | cons head _ ih => simp only [Machine.takeView, List.map_cons, head.isTaking, head.code, head.slot] at ih ⊢; rw [ih]

/-- The take's invariant speaks of the open list only through its view. -/
theorem Engine.takeOk_congr {e : Engine} {l : List Entry} (view : takeView l = takeView e.openList) (h : e.takeOk) :
    ({ e with openList := l } : Engine).takeOk := by
  have before (m : List Entry) :
      (m.dropLast.all fun x => !x.isTaking) = (Machine.takeView m).dropLast.all (fun v => !v.1) := by
    rw [Machine.takeView, ← List.map_dropLast, List.all_map]; rfl
  have last (m : List Entry) : m.getLast?.any Entry.isTaking = (Machine.takeView m).getLast?.any (·.1) := by
    rw [Machine.takeView, List.getLast?_map, Option.any_map]
  have empty (m : List Entry) : m.isEmpty = (Machine.takeView m).isEmpty := by rw [List.isEmpty_map]
  have fits (m : List Entry) (c : Command) :
      (m.all fun x => !x.isTaking || (decide (x.code = c.code.byte) && decide (x.slot = c.slot))) =
        (Machine.takeView m).all fun v => !v.1 || (decide (v.2.1 = c.code.byte) && decide (v.2.2 = c.slot)) := by
    rw [List.all_map]; rfl
  simp only [Engine.takeOk, before, last, empty, fits, view] at h ⊢
  exact h

/-- The entry at a position is done. -/
abbrev DoneAt (l : List Entry) (p : Nat) : Prop := ((l[p]?).bind Entry.completion).isSome = true

theorem Reports.doneAt {l m : List Entry} (h : Reports l m) {p : Nat} (done : DoneAt l p) : DoneAt m p := by
  induction h generalizing p with
  | nil => exact done
  | cons head _ ih =>
    cases p with
    | zero =>
      obtain ⟨c, hc⟩ := Option.isSome_iff_exists.mp done
      exact Option.isSome_iff_exists.mpr ⟨c, head.completion hc⟩
    | succ p => exact ih (p := p) done

theorem DoneAt.lt {l : List Entry} {p : Nat} (done : DoneAt l p) : p < l.length := by
  by_contra out
  rw [DoneAt, List.getElem?_eq_none (by omega)] at done
  exact nomatch done

/-- A done entry stands before the one that is taking. -/
theorem DoneAt.of_concat {init : List Entry} {last : Entry} {p : Nat} (taking : last.isTaking = true)
    (done : DoneAt (init ++ [last]) p) : DoneAt init p := by
  rcases Nat.lt_or_ge p init.length with before | after
  · rwa [DoneAt, List.getElem?_append_left before] at done
  · have lt := done.lt
    rw [List.length_append, List.length_singleton] at lt
    obtain rfl : p = init.length := by omega
    rw [DoneAt, List.getElem?_concat_length] at done
    have state : last.state = .taking := of_decide_eq_true taking
    simp [Entry.completion, state] at done

theorem DoneAt.concat {init : List Entry} {p : Nat} (done : DoneAt init p) (last : Entry) :
    DoneAt (init ++ [last]) p := by
  rw [DoneAt, List.getElem?_append_left done.lt]; exact done

/-- The write in flight is 32 bytes long, and its completion's entry is done (R149). -/
theorem State.writeOk_iff (s : State) : s.writeOk = true ↔ ∀ w, s.events.write = some w →
    w.record.length = 32 ∧ ∀ p, w.source = .completion p → DoneAt s.engine.openList p := by
  unfold State.writeOk
  cases s.events.write with
  | none => simp
  | some w => cases h : w.source <;> simp [h]

/-! ### Rows that leave the engine but for reports -/

/-- From `s` to `t` the engine and the event writer have changed by reports to waiting entries and by the link notice
alone. -/
structure EngineMove (s t : State) : Prop where
  engine : t.engine = { s.engine with openList := t.engine.openList }
  reports : Reports s.engine.openList t.engine.openList
  write : t.events.write = s.events.write
  tail : t.events.tail = s.events.tail
  notice : s.events.linkNotice.all LinkNotice.counted = true → t.events.linkNotice.all LinkNotice.counted = true
  regs : t.regs = s.regs
  accesses : t.accessCount = s.accessCount

theorem LinkMove.engineMove {s t : State} (h : LinkMove s t) : EngineMove s t where
  engine := by rw [h.frame]
  reports := h.reports
  write := by rw [h.frame]
  tail := by rw [h.frame]
  notice := h.notice
  regs := by rw [h.frame]
  accesses := by rw [h.frame]

/-- A change of the open list by reports alone. -/
theorem EngineMove.of_reports {s : State} {l : List Entry} (h : Reports s.engine.openList l) :
    EngineMove s (s.withOpenList l) := ⟨rfl, h, rfl, rfl, id, rfl, rfl⟩

/-- A change of other blocks alone. -/
theorem EngineMove.of_same {s t : State} (engine : t.engine = s.engine) (write : t.events.write = s.events.write)
    (tail : t.events.tail = s.events.tail) (notice : t.events.linkNotice = s.events.linkNotice) (regs : t.regs = s.regs)
    (accesses : t.accessCount = s.accessCount) : EngineMove s t :=
  ⟨by rw [engine], engine ▸ .refl _, write, tail, by rw [notice]; exact id, regs, accesses⟩

theorem EngineMove.trans {s t u : State} (h : EngineMove s t) (k : EngineMove t u) : EngineMove s u where
  engine := by rw [k.engine, h.engine]
  reports := h.reports.trans k.reports
  write := k.write.trans h.write
  tail := k.tail.trans h.tail
  notice := k.notice ∘ h.notice
  regs := k.regs.trans h.regs
  accesses := k.accesses.trans h.accesses

theorem State.noticeInFlight_congr {s t : State} (h : t.events.write = s.events.write) :
    t.noticeInFlight = s.noticeInFlight := by
  rw [State.noticeInFlight, State.noticeInFlight, h]

theorem State.freeEntries_congr {s t : State} (regs : t.regs = s.regs) (tail : t.events.tail = s.events.tail) :
    t.freeEntries = s.freeEntries := by
  simp only [State.freeEntries, State.unconsumed, regs, tail]

theorem State.runCheck_congr {s t : State} (regs : t.regs = s.regs) (head : t.engine.head = s.engine.head)
    (tail : t.events.tail = s.events.tail) : t.runCheck = s.runCheck := by
  simp only [State.runCheck, regs, head, tail]

/-- What a change of the open list must leave for the other invariants to stand: the engine state in its table, no new
access, no more credits, done entries in their places. -/
structure Relisted (s t : State) : Prop where
  shows : t.engine.stateOk
  running : t.engine.state = .running → s.engine.state = .running
  read : ∀ r, t.engine.cmdRead = some r → s.engine.cmdRead = some r
  credits : t.engine.credits ≤ s.engine.credits
  some : t.engine.openList ≠ [] → s.engine.openList ≠ []
  done : ∀ p, DoneAt s.engine.openList p → DoneAt t.engine.openList p
  checks : s.runCheck = none → t.runCheck = none
  write : t.events.write = s.events.write
  tail : t.events.tail = s.events.tail
  notice : s.events.linkNotice.all LinkNotice.counted = true → t.events.linkNotice.all LinkNotice.counted = true
  regs : t.regs = s.regs
  accesses : t.accessCount = s.accessCount

namespace State.EngineSide

variable {s t : State}

/-- The invariants after a change of the open list. -/
theorem relist (h : s.EngineSide) (m : Relisted s t) (list : t.engine.listOk) (take : t.engine.takeOk) :
    t.EngineSide := by
  obtain ⟨-, -, -, write, ⟨reads, writes, differ⟩, ⟨room, notice, checks⟩, level, quiet, counted⟩ := h
  have free := State.freeEntries_congr m.regs m.tail
  refine ⟨m.shows, list, take, ?_, ⟨?_, ?_, ?_⟩, ⟨?_, ?_, ?_⟩, ?_⟩
  · rw [State.writeOk_iff] at write ⊢
    intro w hw
    obtain ⟨length, done⟩ := write w (m.write ▸ hw)
    exact ⟨length, fun p hp => m.done p (done p hp)⟩
  · rw [m.accesses]; exact fun r hr => reads r (m.read r hr)
  · rw [m.accesses, m.write]; exact writes
  · rw [m.write]; exact fun r w hr => differ r w (m.read r hr)
  · rw [free]; exact m.credits.trans room
  · rw [free, State.noticeInFlight_congr m.write]
    have := m.credits
    exact fun flying => by rcases notice flying with zero | less <;> omega
  · exact fun active => m.checks (checks (active.imp m.running m.some))
  · rw [State.registersOk, m.regs]; exact ⟨level, quiet, m.notice counted⟩

theorem move (h : s.EngineSide) (m : EngineMove s t) : t.EngineSide := by
  obtain ⟨paid, fits, first⟩ := s.engine.listOk_iff.mp h.2.1
  have same := m.engine
  have empty : t.engine.openList ≠ [] → s.engine.openList ≠ [] := fun some none => by
    have reports := m.reports
    rw [none] at reports
    exact some (List.forall₂_nil_left_iff.mp reports)
  refine h.relist ⟨?_, ?_, ?_, ?_, empty, fun _ => m.reports.doneAt, ?_, m.write, m.tail, m.notice, m.regs, m.accesses⟩
    (t.engine.listOk_iff.mpr ⟨?_, fits.reports m.reports, first.reports m.reports⟩) ?_
  · rw [same]; exact h.1
  · rw [same]; exact id
  · rw [same]; exact fun _ => id
  · rw [same]
  · rw [State.runCheck_congr m.regs (by rw [same]) m.tail]; exact id
  · rw [← m.reports.length_eq, same]; exact paid
  · rw [same]; exact Engine.takeOk_congr m.reports.takeView h.2.2.1

end State.EngineSide

/-! ### The three conditions of the take -/

/-- The open list ends in the taking entry, the only one. -/
structure EndsTaking (l init : List Entry) (last : Entry) : Prop where
  list : l = init ++ [last]
  before : NoneTaking init
  taking : last.isTaking = true

namespace Engine

variable {e : Engine}

/-- While a command read is in flight the last entry is taking and nothing is checked (R111). -/
theorem reading_list (take : e.takeOk) (reading : e.cmdRead.isSome = true) :
    e.checked = none ∧ ∃ init last, EndsTaking e.openList init last := by
  obtain ⟨before, any, free, -⟩ := take
  refine ⟨free reading, ?_⟩
  rw [reading, Bool.true_or] at any
  rcases taking_cases before with ⟨-, none⟩ | ⟨init, last, list, none, taking⟩
  · exact absurd (none.symm.trans any) nofun
  · exact ⟨init, last, list, none, taking⟩

/-- A checked command's entry is the last one and taking, unless an engine reset has left it no entry (R122, log 5). -/
theorem checked_list (take : e.takeOk) {c : Command} (checked : e.checked = some c) :
    e.cmdRead = none ∧ (e.openList = [] ∨ ∃ init last, EndsTaking e.openList init last ∧
      last.code = c.code.byte ∧ last.slot = c.slot) := by
  obtain ⟨before, any, free, -, fits⟩ := take
  have idle : e.cmdRead = none := by
    rw [← Option.not_isSome_iff_eq_none]
    exact fun reading => absurd ((free reading).symm.trans checked) nofun
  refine ⟨idle, ?_⟩
  rw [idle, checked] at any
  rcases taking_cases before with ⟨-, none⟩ | ⟨init, last, list, none, taking⟩
  · have empty := none.symm.trans any
    exact .inl (List.isEmpty_iff.mp (by simpa using empty.symm))
  · rw [checked, list] at fits
    simp [taking] at fits
    exact .inr ⟨init, last, ⟨list, none, taking⟩, fits.2.2⟩

/-- With no read in flight and nothing checked no entry is taking. -/
theorem idle_list (take : e.takeOk) (idle : e.cmdRead = none) (free : e.checked = none) : NoneTaking e.openList := by
  obtain ⟨before, any, -⟩ := take
  rcases taking_cases before with ⟨none, -⟩ | ⟨init, last, list, -, taking⟩
  · exact none
  · rw [idle, free, list] at any
    simp [taking] at any

/-- An open list with no taking entry is in order while no take is under way. -/
theorem takeOk_of_none (quiet : NoneTaking e.openList) (idle : e.cmdRead = none) (free : e.checked = none)
    (reads : e.mapReads = MapReads.empty) : e.takeOk := by
  refine ⟨?_, ?_, fun _ => free, fun _ => reads, by rw [free]; rfl⟩
  · exact List.all_eq_true.mpr fun x hx => by rw [quiet x (List.mem_of_mem_dropLast hx)]; rfl
  · rw [idle, free]
    cases last : e.openList.getLast? with
    | none => rfl
    | some x => exact quiet x (List.mem_of_getLast? last)

/-- An open list that ends in the taking entry is in order while the read or the check of its record is under way. -/
theorem takeOk_of_taking {init : List Entry} {last : Entry} (ends : EndsTaking e.openList init last)
    (under : e.cmdRead.isSome = true ∧ e.checked = none ∨
      e.cmdRead = none ∧ ∃ c, e.checked = some c ∧ c.wf = true ∧ last.code = c.code.byte ∧ last.slot = c.slot)
    (reads : e.checked ≠ some .mapRead → e.mapReads = MapReads.empty) : e.takeOk := by
  obtain ⟨list, none, taking⟩ := ends
  have before : (init.all fun x => !x.isTaking) = true :=
    List.all_eq_true.mpr fun x hx => by rw [none x hx]; rfl
  rcases under with ⟨reading, free⟩ | ⟨idle, c, checked, wf, code, slot⟩
  · have empty := reads (by rw [free]; nofun)
    simp [Engine.takeOk, list, taking, reading, free, empty, before]
  · rw [checked] at reads
    simp [Engine.takeOk, list, taking, idle, checked, wf, code, slot]
    exact ⟨none, fun other => reads fun same => other (Option.some.inj same), fun x hx => .inl (none x hx)⟩

end Engine

/-! ### The end of an execution step (R116, R125) -/

/-- The taking entry gets a kind and a state, the checked command has been executed, and its claim is taken. -/
def State.endExecution (s : State) (kind : EntryKind) (state : EntryState) : State :=
  { s with
    engine.openList := settle kind state s.engine.openList, engine.checked := none
    engine.mapReads := MapReads.empty, claims := s.claims.erase .command }

theorem State.finishCommand_eq_endExecution (s : State) (kind : EntryKind) (c : Completion) :
    s.finishCommand kind c = s.endExecution kind (.done c) := s.finishCommand_eq kind c

theorem State.waitCommand_eq_endExecution (s : State) : s.waitCommand = s.endExecution .long .waiting :=
  s.waitCommand_eq

/-- A change of the taking entry changes the last one. -/
theorem EndsTaking.map {l init : List Entry} {last : Entry} (ends : EndsTaking l init last) (f : Entry → Entry) :
    (l.map fun e => if e.isTaking then f e else e) = init ++ [f last] := by
  obtain ⟨rfl, none, taking⟩ := ends
  rw [List.map_append, none.map f, List.map_singleton, taking, if_pos rfl]

theorem EndsTaking.settle {l init : List Entry} {last : Entry} (ends : EndsTaking l init last) (kind : EntryKind)
    (state : EntryState) : settle kind state l = init ++ [{ last with kind := kind, state := state }] := by
  rw [← ends.map fun e => { e with kind := kind, state := state }]
  simp only [Machine.settle, Entry.isTaking, decide_eq_true_eq]

theorem EndsTaking.longCount {l init : List Entry} {last : Entry} (ends : EndsTaking l init last) (fits : ListFits l) :
    longCount l = longCount init ∧ last.index < 1024 ∧ init.length < Config.maxOpen := by
  obtain ⟨rfl, -, taking⟩ := ends
  have ok := fits.entries last (by simp)
  have few := fits.few
  have state : last.state = .taking := of_decide_eq_true taking
  simp [Entry.ok, state] at ok
  rw [List.length_append] at few
  exact ⟨by simp [Machine.longCount, Entry.isLong, ok.2], ok.1, few⟩

/-- How an execution step may leave the entry of a command: done without a result that its status does not carry, or,
long, waiting as one of the three commands that wait (R116, R125). -/
inductive Leaves (c : Command) : EntryKind → EntryState → Prop
  | done (kind : EntryKind) (st : Status) (r : Result) : st.carriesResult = true ∨ r = .none →
      Leaves c kind (.done ⟨st, r⟩)
  | send (k : SlotId) (confirm : Bool) : c = .send k confirm → Leaves c .long .waiting
  | linkStop : c = .linkStop → Leaves c .long .waiting
  | barrier : c = .barrier → Leaves c .long .waiting

theorem Leaves.ok {c : Command} {kind : EntryKind} {state : EntryState} (h : Leaves c kind state) {e : Entry}
    (index : e.index < 1024) (code : e.code = c.code.byte) (slot : e.slot = c.slot) :
    ({ e with kind := kind, state := state } : Entry).ok = true := by
  cases h with
  | done _ st r carries => simpa [Entry.ok, index] using carries
  | send k confirm is => subst is; simp [Entry.ok, index, code, slot, Command.code, Command.slot]
  | linkStop is | barrier is => subst is; simp [Entry.ok, index, code, Command.code]

theorem Leaves.not_taking {c : Command} {kind : EntryKind} {state : EntryState} (h : Leaves c kind state) :
    state ≠ .taking := by
  cases h <;> exact nofun

/-- Only a BARRIER's entry waits as one. -/
theorem Leaves.waitsAs_barrier {c : Command} {kind : EntryKind} {state : EntryState} (h : Leaves c kind state)
    (other : c ≠ .barrier) {e : Entry} (code : e.code = c.code.byte) :
    ({ e with kind := kind, state := state } : Entry).waitsAs .barrier = false := by
  cases h with
  | done => simp [Entry.waitsAs]
  | send k confirm is => subst is; simp [Entry.waitsAs, code, Command.code, CommandCode.byte]
  | linkStop is => subst is; simp [Entry.waitsAs, code, Command.code, CommandCode.byte]
  | barrier is => exact absurd is other

namespace State.EngineSide

variable {s t : State}

/-- An execution step ends: the invariants stand when a long entry has room and a BARRIER that waits is not first. -/
theorem endExecution (h : s.EngineSide) {c : Command} (checked : s.engine.checked = some c) {kind : EntryKind}
    {state : EntryState} (leaves : Leaves c kind state) (room : kind = .long → s.longFull = false)
    (barrier : c = .barrier → state = .waiting → s.engine.openList.all Entry.isTaking = false) :
    (s.endExecution kind state).EngineSide := by
  obtain ⟨paid, fits, first⟩ := s.engine.listOk_iff.mp h.2.1
  obtain ⟨idle, empty | ⟨init, last, ends, code, slot⟩⟩ := s.engine.checked_list h.2.2.1 checked
  · have settled : (s.endExecution kind state).engine.openList = s.engine.openList := by
      show Machine.settle kind state s.engine.openList = s.engine.openList
      rw [empty]; rfl
    refine h.relist ⟨h.1, id, fun _ => id, Nat.le_refl _, by rw [settled]; exact id, by rw [settled]; exact fun _ => id,
      id, rfl, rfl, id, rfl, rfl⟩ ?_ (Engine.takeOk_of_none ?_ idle rfl rfl)
    · rw [Engine.listOk_iff, settled]; exact ⟨paid, fits, first⟩
    · rw [settled, empty]; exact fun _ hx => absurd hx List.not_mem_nil
  · obtain ⟨count, index, few⟩ := ends.longCount fits
    have settled : (s.endExecution kind state).engine.openList = init ++ [{ last with kind := kind, state := state }] :=
      ends.settle kind state
    have list := ends.list
    refine h.relist ⟨h.1, id, fun _ => id, Nat.le_refl _, fun _ => by rw [list]; simp, ?_, id, rfl, rfl, id, rfl, rfl⟩
      ((Engine.listOk_iff _).mpr ?_) (Engine.takeOk_of_none ?_ idle rfl rfl)
    · rw [settled, list]; exact fun p done => (done.of_concat ends.taking).concat _
    · rw [settled]
      rw [list] at paid fits first
      refine ⟨paid.trans (by simp), (fits.sublist (List.sublist_append_left init _)).concat few ?_
        (leaves.ok index code slot), first.of_concat.concat fun alone => ?_⟩
      · cases kind with
        | immediate =>
          have long := fits.long
          rw [← list, count] at long
          exact long
        | long =>
          have space := of_decide_eq_false (room rfl)
          rw [count] at space
          exact Nat.not_le.mp space
      · by_cases is : c = .barrier
        · have still : state ≠ .waiting := fun waits => by
            have some := barrier is waits
            rw [list, alone] at some
            simp [ends.taking] at some
          simp [Entry.waitsAs, still]
        · exact leaves.waitsAs_barrier is code
    · rw [settled]
      intro x hx
      rcases List.mem_append.mp hx with old | new
      · exact ends.before x old
      · rw [List.mem_singleton.mp new]; exact decide_eq_false leaves.not_taking

end State.EngineSide

/-! ### The rows of the ten commands -/

section
variable {s : State}

theorem State.EngineSide.endStatus (h : s.EngineSide) {c : Command} (checked : s.engine.checked = some c)
    (st : Status) : (s.finishStatus st).EngineSide := by
  rw [State.finishStatus, State.finishCommand_eq_endExecution]
  exact h.endExecution checked (.done _ _ _ (.inr rfl)) nofun nofun

/-- A command is done at once, its kind immediate. -/
theorem State.EngineSide.endImmediate (h : s.EngineSide) {c : Command} (checked : s.engine.checked = some c)
    {st : Status} {r : Result} (carries : st.carriesResult = true) :
    (s.finishCommand .immediate ⟨st, r⟩).EngineSide := by
  rw [State.finishCommand_eq_endExecution]
  exact h.endExecution checked (.done _ _ _ (.inl carries)) nofun nofun

/-- A long command is done at once. -/
theorem State.EngineSide.endLong (h : s.EngineSide) {c : Command} (checked : s.engine.checked = some c)
    (room : s.longFull = false) (st : Status) : (s.finishCommand .long ⟨st, .none⟩).EngineSide := by
  rw [State.finishCommand_eq_endExecution]
  exact h.endExecution checked (.done _ _ _ (.inr rfl)) (fun _ => room) nofun

/-- A long command other than BARRIER starts its wait. -/
theorem State.EngineSide.startWait (h : s.EngineSide) {c : Command} (checked : s.engine.checked = some c)
    (room : s.longFull = false) (leaves : Leaves c .long .waiting) (other : c ≠ .barrier) :
    s.waitCommand.EngineSide := by
  rw [State.waitCommand_eq_endExecution]
  exact h.endExecution checked leaves (fun _ => room) (fun is => absurd is other)

/-- The operations of the slot table controller reach the engine by reports alone (R17, R18, R117). -/
theorem State.storeSlot_engineMove (o : StoreOperands) : EngineMove s (s.storeSlot o) := by
  have written : EngineMove s (if o.closes s.slots[o.slot] || o.clearStatus then
      (s.withSlot o.slot (o.apply s.slots[o.slot])).dropNotice o.slot
      else s.withSlot o.slot (o.apply s.slots[o.slot])) := by
    split <;> exact .of_same rfl rfl rfl rfl rfl rfl
  unfold State.storeSlot
  dsimp only
  split
  · exact written.trans (.of_reports (.finishWhere _ (fun _ on => .inl (Entry.waitsOn_waiting on)) _))
  · exact written

theorem State.clearPending_engineMove (k : SlotId) : EngineMove s (s.clearPending k) :=
  have cleared : EngineMove s (s.withSlot k { s.slots[k] with sendPending := false }) :=
    .of_same rfl rfl rfl rfl rfl rfl
  cleared.trans (.of_reports (.finishWhere .cancelled (fun _ on => .inl (Entry.waitsOn_waiting (k := k) on)) _))

theorem State.clearTable_engineMove : EngineMove s s.clearTable :=
  have closed : EngineMove s ((s.withSlots (s.slots.map Slot.closed)).withNoticeList []) :=
    .of_same rfl rfl rfl rfl rfl rfl
  closed.trans (.of_reports
    (.finishWhere .slotClosed (fun _ waits => .inl (Entry.waitsAs_waiting (c := .send) waits)) _))

theorem execNop_engineSide (h : s.EngineSide) : Ensures State.EngineSide (execNop s) := by
  rw [execNop, ensures_next]
  split
  · next checked => exact h.endStatus checked _
  · exact h

theorem execStore_engineSide (h : s.EngineSide) : Ensures State.EngineSide (execStore s) := by
  rw [execStore, ensures_next]
  split
  · next o checked =>
    split
    · unfold State.runStore
      split
      · exact h.endStatus checked _
      · have m := s.storeSlot_engineMove o
        exact (h.move m).endStatus (by rw [m.engine]; exact checked) _
    · exact h
  · exact h

theorem State.consumeSlot_engineMove (k : SlotId) : EngineMove s (s.consumeSlot k) :=
  .of_same rfl rfl rfl rfl rfl rfl

theorem State.setPending_engineMove (k : SlotId) : EngineMove s (s.setPending k) := .of_same rfl rfl rfl rfl rfl rfl

theorem execFetch_engineSide (h : s.EngineSide) : Ensures State.EngineSide (execFetch s) := by
  rw [execFetch, ensures_next]
  split
  · next checked =>
    split
    · unfold State.runFetch
      split
      · exact (h.move (s.consumeSlot_engineMove _)).endImmediate checked rfl
      · exact h.endImmediate checked rfl
    · exact h
  · exact h

theorem State.EngineSide.runSend (h : s.EngineSide) {k : SlotId} {confirm : Bool}
    (checked : s.engine.checked = some (.send k confirm)) : (s.runSend k confirm).EngineSide := by
  have pending := h.move (s.setPending_engineMove k)
  unfold State.runSend State.runConfirm
  split
  · exact h.endStatus checked _
  · next room =>
    split
    · exact h.endStatus checked _
    · split
      · next long =>
        have space : s.longFull = false := by simpa [long] using room
        split
        · exact pending.endLong checked space _
        · exact pending.startWait checked space (.send k confirm rfl) nofun
      · exact pending.endStatus checked _

theorem execSend_engineSide (h : s.EngineSide) : Ensures State.EngineSide (execSend s) := by
  rw [execSend, ensures_next]
  split
  · next checked =>
    split
    · exact h.runSend checked
    · exact h
  · exact h

theorem execCancel_engineSide (h : s.EngineSide) : Ensures State.EngineSide (execCancel s) := by
  rw [execCancel, ensures_next]
  split
  · next k checked =>
    split
    · unfold State.runCancel
      refine (h.move (s.clearPending_engineMove k)).endImmediate checked ?_
      split <;> rfl
    · exact h
  · exact h

theorem execTableClear_engineSide (h : s.EngineSide) : Ensures State.EngineSide (execTableClear s) := by
  rw [execTableClear, ensures_next]
  split
  · next checked =>
    split
    · exact (h.move s.clearTable_engineMove).endStatus checked _
    · exact h
  · exact h

theorem execLinkStart_engineSide (h : s.EngineSide) : Ensures State.EngineSide (execLinkStart s) := by
  rw [execLinkStart, ensures_next]
  split
  · next o checked =>
    unfold State.runLinkStart
    have m := (s.startLink_move o).engineMove
    split
    · exact (h.move m).endStatus (by rw [m.engine]; exact checked) _
    · exact h.endStatus checked _
  · exact h

theorem execLinkStop_engineSide (h : s.EngineSide) : Ensures State.EngineSide (execLinkStop s) := by
  rw [execLinkStop, ensures_next]
  split
  · next checked =>
    unfold State.runLinkStop
    split
    · exact h.endStatus checked _
    · next room =>
      have space : s.longFull = false := Bool.eq_false_iff.mpr room
      split
      · exact h.endLong checked space _
      · exact (h.startWait checked space (.linkStop rfl) nofun).move (State.stopLink_move _).reported.engineMove
  · exact h

theorem execBarrier_engineSide (h : s.EngineSide) : Ensures State.EngineSide (execBarrier s) := by
  rw [execBarrier, ensures_next]
  split
  · next checked =>
    unfold State.runBarrier
    split
    · exact h.endStatus checked _
    · next room =>
      have space : s.longFull = false := Bool.eq_false_iff.mpr room
      split
      · exact h.endLong checked space _
      · next others =>
        rw [State.waitCommand_eq_endExecution]
        exact h.endExecution checked (.barrier rfl) (fun _ => space) fun _ _ => Bool.eq_false_iff.mpr others
  · exact h

/-- A MAP_READ makes a read of another owner: only its reads made change (R143). -/
theorem State.EngineSide.withMapReads (h : s.EngineSide) (checked : s.engine.checked = some .mapRead) (m : MapReads)
    {t : State} (move : EngineMove s t) : (t.withMapReads m).EngineSide := by
  have moved := h.move move
  have still : t.engine.checked = some .mapRead := by rw [move.engine]; exact checked
  obtain ⟨before, any, free, -, fits⟩ := moved.2.2.1
  exact moved.relist ⟨moved.1, id, fun _ => id, Nat.le_refl _, id, fun _ => id, id, rfl, rfl, id, rfl, rfl⟩ moved.2.1
    ⟨before, any, free, fun other => absurd still other, fits⟩

/-- What a read of a MAP_READ keeps: the invariants, and the command checked. -/
abbrev State.MapReading (s : State) : Prop := s.EngineSide ∧ s.engine.checked = some .mapRead

theorem State.MapReading.readRing (h : s.MapReading) : s.readRing.MapReading := by
  unfold State.readRing
  split
  · exact h
  · exact ⟨h.1.withMapReads h.2 _ (.of_same rfl rfl rfl rfl rfl rfl), h.2⟩

theorem State.MapReading.readCounter (h : s.MapReading) : s.readCounter.MapReading := by
  unfold State.readCounter
  split
  · exact h
  · exact ⟨h.1.withMapReads h.2 _ (.of_same rfl rfl rfl rfl rfl rfl), h.2⟩

theorem State.MapReading.readCursor (h : s.MapReading) : s.readCursor.MapReading := by
  unfold State.readCursor
  split
  · exact h
  · exact ⟨h.1.withMapReads h.2 _ (.of_same rfl rfl rfl rfl rfl rfl), h.2⟩

theorem execMapRead_engineSide (h : s.EngineSide) (part : MapPart) : Ensures State.EngineSide (execMapRead part s) := by
  rw [execMapRead, ensures_next]
  split
  · next checked =>
    have start : s.MapReading := ⟨h, checked⟩
    have read : (s.readPart part).MapReading := by
      cases part with
      | ring => exact start.readRing
      | table => exact start.readCounter
      | scheduler => exact start.readCursor
      | rest => exact start.readRing.readCounter.readCursor
    unfold State.endMapRead
    split
    · exact read.1.endImmediate read.2 rfl
    · exact read.1
  · exact h

/-! ### The rows of the take -/

/-- TAKE_BEGIN when its conditions hold (R111). -/
theorem State.EngineSide.beginTake (h : s.EngineSide) (can : s.canTake = true) :
    ((s.withEngine (s.engine.beginTake s.accessCount (s.regs.cmdAddress s.engine.head))).countAccess).EngineSide := by
  obtain ⟨shows, list, take, write, ⟨reads, writes, differ⟩, ⟨room, notice, checks⟩, registers⟩ := h
  obtain ⟨paid, fits, first⟩ := s.engine.listOk_iff.mp list
  obtain ⟨running, idle, free, -, few, credit, ground, -⟩ := (s.rowDue_takeBegin).mpr can
  have settings := checks (.inl running)
  have head : s.engine.head < 1024 := by
    obtain ⟨-, size, ⟨-, inside⟩, -⟩ := s.runCheck_eq_none.mp settings
    simp only [Registers.cmdSizeValid, Bool.and_eq_true, decide_eq_true_eq] at size
    exact inside.trans_le (Nat.pow_le_pow_right (by decide) size.2)
  have ends : EndsTaking (s.engine.openList ++ [Entry.taken s.engine.head]) s.engine.openList (Entry.taken s.engine.head) :=
    ⟨rfl, s.engine.idle_list take idle free, rfl⟩
  refine ⟨shows, (Engine.listOk_iff _).mpr ⟨?_, fits.concat few fits.long ?_, first.concat fun _ => rfl⟩,
    Engine.takeOk_of_taking ends (.inl ⟨rfl, free⟩) ?_, ?_, ⟨?_, ?_, ?_⟩, ⟨credit, ?_, fun _ => settings⟩, registers⟩
  · show s.engine.credits + 1 = (s.engine.openList ++ [Entry.taken s.engine.head]).length
    rw [paid, List.length_append]; rfl
  · exact Bool.and_eq_true_iff.mpr ⟨decide_eq_true head, rfl⟩
  · exact fun _ => take.2.2.2.1 (by rw [free]; nofun)
  · rw [State.writeOk_iff] at write ⊢
    exact fun w hw => ⟨(write w hw).1, fun p hp => ((write w hw).2 p hp).concat _⟩
  · intro r hr
    cases hr
    exact Nat.lt_succ_self _
  · exact fun w hw => (writes w hw).trans (Nat.lt_succ_self _)
  · intro r w hr hw
    cases hr
    exact (writes w hw).ne'
  · intro flying
    exact absurd flying (Bool.eq_false_iff.mp (s.noticeInFlight_iff.mpr ground))

/-- The take under way ends without a record: its entry goes, its credit is released (R120, R121). -/
theorem State.EngineSide.dropTaking (h : s.EngineSide) (reading : s.engine.cmdRead.isSome = true) {state : EngineState}
    {fault : FaultCode} (shows : ({ s.engine.dropTaking with state := state, fault := fault } : Engine).stateOk)
    (running : state = .running → s.engine.state = .running) :
    (s.withEngine { s.engine.dropTaking with state := state, fault := fault }).EngineSide := by
  obtain ⟨paid, fits, -⟩ := s.engine.listOk_iff.mp h.2.1
  obtain ⟨free, init, last, list, none, taking⟩ := s.engine.reading_list h.2.2.1 reading
  have left : (s.engine.openList.filter fun x => !x.isTaking) = init := by
    rw [list, List.filter_append, none.filter, List.filter_singleton, taking]; exact List.append_nil _
  have dropped : s.engine.dropTaking.openList = releaseBarrier init := by rw [Engine.dropTaking, left]
  refine h.relist ⟨shows, running, nofun, Nat.sub_le _ _, fun _ => by rw [list]; simp, fun p done => ?_, id,
    rfl, rfl, id, rfl, rfl⟩ ((Engine.listOk_iff _).mpr ⟨?_, ?_, ?_⟩) (Engine.takeOk_of_none ?_ rfl free ?_)
  · show DoneAt s.engine.dropTaking.openList p
    rw [dropped]
    rw [list] at done
    exact (Reports.release init).doneAt (done.of_concat taking)
  · show s.engine.credits - 1 = s.engine.dropTaking.openList.length
    rw [dropped, paid, list, releaseBarrier_length, List.length_append]; rfl
  · show ListFits s.engine.dropTaking.openList
    rw [dropped]
    rw [list] at fits
    exact (fits.sublist (List.sublist_append_left _ _)).reports (.release init)
  · show NoBarrierFirst s.engine.dropTaking.openList
    rw [dropped]; exact .release init
  · show NoneTaking s.engine.dropTaking.openList
    rw [dropped]; exact none.reports (.release init)
  · exact h.2.2.1.2.2.2.1 (by rw [free]; nofun)

theorem State.EngineSide.readFailed (h : s.EngineSide) (reading : s.engine.cmdRead.isSome = true) :
    s.readFailed.EngineSide := by
  unfold State.readFailed
  split
  · exact h.dropTaking reading (state := s.engine.state) (fault := s.engine.fault) h.1 id
  · exact h.dropTaking reading ⟨rfl, nofun, nofun⟩ nofun

/-- The taking entry's place taken by another entry that is in order. -/
theorem ListFits.relast {l init : List Entry} {last : Entry} (ends : EndsTaking l init last) (fits : ListFits l)
    {e : Entry} (ok : e.ok = true) (short : e.kind = .immediate) : ListFits (init ++ [e]) := by
  obtain ⟨count, -, few⟩ := ends.longCount fits
  refine (fits.sublist (ends.list ▸ List.sublist_append_left _ _)).concat few ?_ ok
  have long := fits.long
  rw [count] at long
  simpa [longCount, Entry.isLong, short] using long

/-- The ring settings still pass their checks when the head moves on to the next record (R109, R112). -/
theorem State.runCheck_advance (h : s.runCheck = none) :
    (s.withEngine (s.engine.advance s.regs.cmdRingSize)).runCheck = none := by
  rw [State.runCheck_eq_none] at h ⊢
  obtain ⟨base, size, ⟨tail, head⟩, rest⟩ := h
  exact ⟨base, size, ⟨tail, ringNext_lt head⟩, rest⟩

/-- A record has been read: the taking entry has become `e`, done or still taking, and the read is over. -/
theorem State.EngineSide.recordRead (h : s.EngineSide) {init : List Entry} {last e : Entry}
    (ends : EndsTaking s.engine.openList init last) {t : State}
    (same : t = s.withEngine { s.engine.advance s.regs.cmdRingSize with
      openList := init ++ [e], checked := t.engine.checked })
    (ok : e.ok = true) (short : e.kind = .immediate) (active : e.waitsAs .barrier = false) (take : t.engine.takeOk) :
    t.EngineSide := by
  obtain ⟨paid, fits, first⟩ := s.engine.listOk_iff.mp h.2.1
  have list : t.engine.openList = init ++ [e] := by rw [same]; rfl
  have old := ends.list
  rw [old] at paid first
  refine h.relist ⟨?_, ?_, ?_, ?_, fun _ => by rw [old]; simp, fun p done => ?_, fun ok => ?_, ?_, ?_, ?_, ?_, ?_⟩
    (t.engine.listOk_iff.mpr ⟨?_, ?_, ?_⟩) take
  · rw [same]; exact h.1
  · rw [same]; exact id
  · rw [same]; nofun
  · rw [same]; exact Nat.le_refl _
  · rw [list]
    rw [old] at done
    exact (done.of_concat ends.taking).concat e
  · rw [same]; exact State.runCheck_advance ok
  · rw [same]; rfl
  · rw [same]; rfl
  · rw [same]; exact id
  · rw [same]; rfl
  · rw [same]; rfl
  · rw [list, same]; exact paid.trans (by simp)
  · rw [list]; exact .relast ends fits ok short
  · rw [list]; exact first.of_concat.concat fun _ => active

theorem State.EngineSide.endTake (h : s.EngineSide) {read : CommandRead} (reading : s.engine.cmdRead = some read)
    (record : List Byte) : (s.endTake read record).EngineSide := by
  have under : s.engine.cmdRead.isSome = true := by rw [reading]; rfl
  obtain ⟨free, init, last, ends⟩ := s.engine.reading_list h.2.2.1 under
  have fits := (s.engine.listOk_iff.mp h.2.1).2.1
  have empty := h.2.2.1.2.2.2.1 (by rw [free]; nofun)
  obtain ⟨-, index, -⟩ := ends.longCount fits
  have taken (slot : Option SlotId) : EndsTaking (readInto record slot s.engine.openList) init
      (last.fromRecord record slot) := ⟨ends.map _, ends.before, ends.taking⟩
  unfold State.endTake State.checkTaken
  split
  · exact h.dropTaking under (state := s.engine.state) (fault := s.engine.fault) h.1 id
  · split
    · next st _ =>
      have done := (taken none).map fun e =>
        { e with kind := .immediate, state := .done ⟨st, .none⟩ }
      refine h.recordRead ends (e := { last.fromRecord record none with
          kind := .immediate, state := .done ⟨st, .none⟩ }) ?_ ?_ rfl ?_ (Engine.takeOk_of_none ?_ rfl free empty)
      · rw [← done]; rfl
      · simp [Entry.ok, Entry.fromRecord, index]
      · simp [Entry.waitsAs]
      · show NoneTaking ((readInto record none s.engine.openList).map _)
        rw [done]
        intro x hx
        rcases List.mem_append.mp hx with old | new
        · exact ends.before x old
        · rw [List.mem_singleton.mp new]; rfl
    · next c accepted =>
      obtain ⟨wf, code⟩ := checkRecord_ok accepted
      have state : last.state = .taking := of_decide_eq_true ends.taking
      have short : last.kind = .immediate := by
        simpa [Entry.ok, state, index] using fits.entries last (by rw [ends.list]; simp)
      have checked : ((s.withEngine (s.engine.advance s.regs.cmdRingSize)).withEngine
          ((s.engine.advance s.regs.cmdRingSize).acceptRecord record c)).EngineSide := by
        refine h.recordRead ends (e := last.fromRecord record c.slot) ?_ ?_ ?_ ?_
          (Engine.takeOk_of_taking (taken c.slot) (.inr ⟨rfl, c, rfl, wf, code, rfl⟩) fun _ => empty)
        · rw [← (taken c.slot).list]; rfl
        · simp [Entry.ok, Entry.fromRecord, state, short, index]
        · exact short
        · simp [Entry.waitsAs, Entry.fromRecord, state]
      refine checked.move ?_
      unfold State.claimFor
      split
      · exact .of_same rfl rfl rfl rfl rfl rfl
      · exact .of_same rfl rfl rfl rfl rfl rfl

theorem execTakeBegin_engineSide (h : s.EngineSide) : Ensures State.EngineSide (execTakeBegin s) := by
  rw [execTakeBegin, ensures_next]
  split
  · next can => exact h.beginTake can
  · exact h

theorem State.reading_isSome {access : Nat} (h : s.reading access = true) : s.engine.cmdRead.isSome = true := by
  obtain ⟨r, hr, -⟩ := (Option.any_eq_true ..).mp h
  rw [hr]; rfl

theorem execCqReadFail_engineSide (h : s.EngineSide) (access : Nat) :
    Ensures State.EngineSide (execCqReadFail access s) := by
  rw [execCqReadFail, ensures_next]
  split
  · next reading => exact h.readFailed (State.reading_isSome reading)
  · exact h

theorem execTakeEnd_engineSide (h : s.EngineSide) (access : Nat) (record : List Byte) :
    Ensures State.EngineSide (execTakeEnd access record s) := by
  rw [execTakeEnd, ensures_next]
  split
  · exact h
  · next read reading =>
    split
    · exact h.endTake reading record
    · exact h

/-! ### The rows of the event writer -/

theorem halfBytes_length (h : Half) : (halfBytes h).length = 2 := rfl

theorem Result.bytes_length (r : Result) : r.bytes.length = 24 := by
  cases r <;> simp [Result.bytes, keyBytes, halfBytes, mapBytes]

theorem completionRecord_length (phase : Bool) (e : Entry) (c : Completion) :
    (completionRecord phase e c).length = 32 := by
  unfold completionRecord
  split <;> simp [Result.bytes_length, halfBytes]

theorem noticeRecord_length (phase : Bool) (k : SlotId) (x : Slot) : (noticeRecord phase k x).length = 32 := by
  unfold noticeRecord
  split <;> simp [filedRecord, solicitedRecord, keyBytes, halfBytes]

theorem linkRecord_length (phase : Bool) (n : LinkNotice) (clash : Bool) (rotation : Half) :
    (linkRecord phase n clash rotation).length = 32 := by
  simp [linkRecord, halfBytes]

/-- A write begins while none is in flight: a completion's for a done entry, a notice's with room beyond the credits
(R148, R149). -/
theorem State.EngineSide.beginWrite (h : s.EngineSide) {record : List Byte} {source : EventSource}
    (length : record.length = 32) (done : ∀ p, source = .completion p → DoneAt s.engine.openList p)
    (room : source = .notice → s.engine.credits < s.freeEntries) : (s.beginWrite record source).EngineSide := by
  obtain ⟨shows, list, take, -, ⟨reads, -, -⟩, ⟨free, -, checks⟩, registers⟩ := h
  refine ⟨shows, list, take, (State.writeOk_iff _).mpr ?_, ⟨?_, ?_, ?_⟩, ⟨free, ?_, checks⟩, registers⟩
  · intro w hw
    cases hw
    exact ⟨length, done⟩
  · exact fun r hr => (reads r hr).trans (Nat.lt_succ_self _)
  · intro w hw
    cases hw
    exact Nat.lt_succ_self _
  · intro r w hr hw
    cases hw
    exact (reads r hr).ne
  · exact fun flying => .inr (room (of_decide_eq_true flying))

theorem execCompletionWrite_engineSide (h : s.EngineSide) : Ensures State.EngineSide (execCompletionWrite s) := by
  rw [execCompletionWrite, ensures_next]
  split
  · split
    · next p _ =>
      unfold State.beginCompletion
      split
      · next e entry =>
        split
        · next c done =>
          refine h.beginWrite (completionRecord_length _ e c) ?_ nofun
          rintro q ⟨⟩
          rw [DoneAt, entry, Option.bind_some, done]; rfl
        · exact h
      · exact h
    · exact h
  · exact h

theorem execLinkNoticeWrite_engineSide (h : s.EngineSide) : Ensures State.EngineSide (execLinkNoticeWrite s) := by
  rw [execLinkNoticeWrite, ensures_next]
  split
  · next n _ =>
    split
    · next due =>
      obtain ⟨-, -, running, room, -⟩ := (s.rowDue_linkNoticeWrite).mpr due
      have cleared : (s.withEvents { s.events with linkNotice := none }).EngineSide :=
        h.move ⟨rfl, .refl _, rfl, rfl, fun _ => rfl, rfl, rfl⟩
      exact cleared.beginWrite (linkRecord_length _ n _ _) nofun fun _ => room
    · exact h
  · exact h

theorem execReadForNotice_engineSide (h : s.EngineSide) : Ensures State.EngineSide (execReadForNotice s) := by
  have taken : (s.dropClaim .notice).EngineSide := h.move (.of_same rfl rfl rfl rfl rfl rfl)
  rw [execReadForNotice, ensures_next]
  split
  · unfold State.readFront
    split
    · next k rest _ =>
      split
      · next ready =>
        obtain ⟨-, -, room, -⟩ := (State.slotNoticeReady_iff _).mp ready
        have listed : ((s.dropClaim .notice).withNoticeList rest).EngineSide :=
          h.move (.of_same rfl rfl rfl rfl rfl rfl)
        exact listed.beginWrite (noticeRecord_length _ k _) nofun fun _ => ((State.noticeRoom_iff _).mp room).2
      · exact taken
    · exact taken
  · exact h

/-- A failed write is discarded and takes the engine to FAULTED (R121, R150). -/
theorem State.EngineSide.writeFailed (h : s.EngineSide) : s.writeFailed.EngineSide := by
  obtain ⟨shows, list, take, -, ⟨reads, -, -⟩, ⟨free, -, checks⟩, registers⟩ := h
  unfold State.writeFailed
  dsimp only
  split
  · exact ⟨shows, list, take, rfl, ⟨reads, nofun, nofun⟩, ⟨free, nofun, checks⟩, registers⟩
  · exact ⟨⟨rfl, nofun, nofun⟩, list, take, rfl, ⟨reads, nofun, nofun⟩,
      ⟨free, nofun, fun active => checks (.inr (active.resolve_left nofun))⟩, registers⟩

/-- The tail moves on by one record while the event ring has a free entry (R146, R149). -/
theorem State.freeEntries_advance (settings : s.runCheck = none) (free : 0 < s.freeEntries) :
    (s.withEvents (s.events.advance s.regs.evtRingSize)).freeEntries = s.freeEntries - 1 := by
  obtain ⟨-, -, -, -, -, head, tail⟩ := s.runCheck_eq_none.mp settings
  have next := ringDistance_ringNext head tail
  unfold State.freeEntries State.unconsumed at free ⊢
  show s.regs.evtRingSize - 1 - ringDistance s.regs.evtRingSize s.regs.evtHead (ringNext s.regs.evtRingSize s.events.tail)
    = _
  rw [next (by omega)]
  omega

/-- The ring settings still pass their checks when the tail moves on (R109, R149). -/
theorem State.runCheck_tail (h : s.runCheck = none) :
    (s.withEvents (s.events.advance s.regs.evtRingSize)).runCheck = none := by
  rw [State.runCheck_eq_none] at h ⊢
  obtain ⟨base, size, indices, base', size', head, tail⟩ := h
  exact ⟨base, size, indices, base', size', head, ringNext_lt tail⟩

/-- An entry that is done leaves the list, and a BARRIER left first is done (R117, R118). -/
theorem EndsTaking.eraseIdx {l init : List Entry} {last : Entry} (ends : EndsTaking l init last) {p : Nat}
    (done : DoneAt l p) : EndsTaking (l.eraseIdx p) (init.eraseIdx p) last := by
  obtain ⟨rfl, none, taking⟩ := ends
  exact ⟨List.eraseIdx_append_of_lt_length (done.of_concat taking).lt _,
    fun x hx => none x (List.mem_of_mem_eraseIdx hx), taking⟩

theorem Engine.takeOk_removeEntry {e : Engine} (take : e.takeOk) {p : Nat} (done : DoneAt e.openList p) :
    (e.removeEntry p).takeOk := by
  have erased : ({ e with openList := e.openList.eraseIdx p } : Engine).takeOk := by
    have reads := take.2.2.2.1
    obtain checked | ⟨c, checked⟩ := Option.eq_none_or_eq_some e.checked
    · obtain reading | idle := Bool.eq_false_or_eq_true e.cmdRead.isSome
      · obtain ⟨-, init, last, ends⟩ := e.reading_list take reading
        exact Engine.takeOk_of_taking (ends.eraseIdx done) (.inl ⟨reading, checked⟩) reads
      · have idle : e.cmdRead = none := Option.not_isSome_iff_eq_none.mp (Bool.eq_false_iff.mp idle)
        have quiet := e.idle_list take idle checked
        exact Engine.takeOk_of_none (fun x hx => quiet x (List.mem_of_mem_eraseIdx hx)) idle checked
          (reads (by rw [checked]; nofun))
    · obtain ⟨idle, empty | ⟨init, last, ends, code, slot⟩⟩ := e.checked_list take checked
      · rw [empty] at done; exact nomatch done
      · have wf : c.wf = true := by
          have fits := take.2.2.2.2
          rw [checked] at fits
          exact (Bool.and_eq_true_iff.mp fits).1
        exact Engine.takeOk_of_taking (ends.eraseIdx done) (.inr ⟨idle, c, checked, wf, code, slot⟩) reads
  exact Engine.takeOk_congr (e := { e with openList := e.openList.eraseIdx p, credits := e.credits - 1 })
    (Reports.release _).takeView erased

/-- A successful write (R118, R149). -/
theorem State.EngineSide.writeEnded (h : s.EngineSide) {w : EventWrite} (writing : s.events.write = some w) :
    (s.writeEnded w).EngineSide := by
  obtain ⟨shows, list, take, write, ⟨reads, -, -⟩, ⟨free, notice, checks⟩, registers⟩ := h
  obtain ⟨paid, fits, first⟩ := s.engine.listOk_iff.mp list
  obtain ⟨-, done⟩ := s.writeOk_iff.mp write w writing
  have look (t : State) (u : t.EngineSide) : t.lookForNotice.EngineSide := by
    rw [State.lookForNotice_eq]
    exact u.move (.of_same rfl rfl rfl rfl rfl rfl)
  unfold State.writeEnded
  dsimp only
  refine look _ ?_
  split
  · next p source =>
    have done := done p source
    have some : s.engine.openList ≠ [] := fun none => by rw [none] at done; exact nomatch done
    have settings := checks (.inr some)
    have paying : 0 < s.engine.credits := paid ▸ List.length_pos_iff.mpr some
    have left := State.freeEntries_advance settings (paying.trans_le free)
    refine ⟨shows, (Engine.listOk_iff _).mpr ⟨?_, ?_, .release _⟩, Engine.takeOk_removeEntry take done, rfl,
      ⟨reads, nofun, nofun⟩, ⟨?_, nofun, fun _ => State.runCheck_tail settings⟩, registers⟩
    · show s.engine.credits - 1 = (releaseBarrier (s.engine.openList.eraseIdx p)).length
      rw [releaseBarrier_length, List.length_eraseIdx_of_lt done.lt, paid]
    · exact (fits.sublist (List.eraseIdx_sublist _ _)).reports (.release _)
    · show s.engine.credits - 1 ≤ (s.withEvents (s.events.advance s.regs.evtRingSize)).freeEntries
      rw [left]
      exact Nat.sub_le_sub_right free 1
  · next source =>
    have flying : s.noticeInFlight = true := by
      rw [State.noticeInFlight, writing]; exact decide_eq_true source
    refine ⟨shows, list, take, rfl, ⟨reads, nofun, nofun⟩,
      ⟨?_, nofun, fun active => State.runCheck_tail (checks active)⟩,
      registers⟩
    show s.engine.credits ≤ (s.withEvents (s.events.advance s.regs.evtRingSize)).freeEntries
    rcases Nat.eq_zero_or_pos s.engine.credits with zero | paying
    · rw [zero]; exact Nat.zero_le _
    · have some : s.engine.openList ≠ [] := List.length_pos_iff.mp (paid ▸ paying)
      have room := (notice flying).resolve_left paying.ne'
      rw [State.freeEntries_advance (checks (.inr some)) (paying.trans room)]
      exact Nat.le_sub_one_of_lt room

theorem execEventWriteDone_engineSide (h : s.EngineSide) (access : Nat) :
    Ensures State.EngineSide (execEventWriteDone access s) := by
  rw [execEventWriteDone, ensures_next]
  split
  · exact h
  · next w writing =>
    split
    · exact h.writeEnded writing
    · exact h

theorem execEventWriteFail_engineSide (h : s.EngineSide) (access : Nat) :
    Ensures State.EngineSide (execEventWriteFail access s) := by
  rw [execEventWriteFail, ensures_next]
  split
  · exact h.writeFailed
  · exact h

theorem execBusResponseTimeout_engineSide (h : s.EngineSide) (access : BusAccess) :
    Ensures State.EngineSide (execBusResponseTimeout access s) := by
  rw [execBusResponseTimeout.eq_def, ensures_next]
  split
  · next due =>
    cases access with
    | commandRead =>
      obtain ⟨r, hr, -⟩ := (Option.any_eq_true ..).mp due
      exact h.readFailed (by rw [hr]; rfl)
    | eventWrite => exact h.writeFailed
  · exact h

/-! ### The register writes and the resets -/

/-- The event writer's look touches no more than a claim (R148). -/
theorem State.EngineSide.lookForNotice (h : s.EngineSide) : s.lookForNotice.EngineSide := by
  rw [State.lookForNotice_eq]
  exact h.move (.of_same rfl rfl rfl rfl rfl rfl)

/-- Other registers, while the engine is STOPPED with nothing open, or where they leave the free entries and the checks
of a run. -/
theorem State.EngineSide.withRegs (h : s.EngineSide) {g : Registers}
    (geometry : s.geometryOpen = true ∨
      s.freeEntries ≤ (s.withRegs g).freeEntries ∧ (s.runCheck = none → (s.withRegs g).runCheck = none))
    (level : g.notifyLevel ≤ 4096) (quiet : g.notifyQuiet ≤ 65535) : (s.withRegs g).EngineSide := by
  obtain ⟨shows, list, take, write, accesses, ⟨free, notice, checks⟩, -, -, counted⟩ := h
  refine ⟨shows, list, take, write, accesses, ?_, level, quiet, counted⟩
  rcases geometry with idle | ⟨more, settings⟩
  · simp only [State.geometryOpen, Bool.and_eq_true, decide_eq_true_eq, List.isEmpty_iff] at idle
    have zero : s.engine.credits = 0 := (s.engine.listOk_iff.mp list).1.trans (by rw [idle.2]; rfl)
    refine ⟨zero ▸ Nat.zero_le _, fun _ => .inl zero, fun active => ?_⟩
    rcases active with running | some
    · exact absurd (idle.1.symm.trans running) nofun
    · exact absurd idle.2 some
  · exact ⟨free.trans more, fun flying => (notice flying).imp_right (·.trans_le more),
      fun active => settings (checks active)⟩

theorem State.EngineSide.setRefused (h : s.EngineSide) : s.setRefused.EngineSide :=
  h.withRegs (.inr ⟨Nat.le_refl _, id⟩) h.2.2.2.2.2.2.1 h.2.2.2.2.2.2.2.1

/-- The run bit taken against the engine state (R109, R110, R162). -/
theorem State.EngineSide.controlRun (h : s.EngineSide) (run : Bool) : (s.controlRun run).EngineSide := by
  unfold State.controlRun
  obtain ⟨⟨shows, runs, stops⟩, list, take, write, accesses, ⟨free, notice, checks⟩, registers⟩ := id h
  split
  · next stopped =>
    split
    · split
      · refine ⟨⟨?_, ?_, fun _ => rfl⟩, list, take, write, accesses, ⟨free, notice, checks⟩, registers⟩
        · show s.engine.state.shows _ = true
          rw [stopped]; rfl
        · exact fun running => absurd (stopped.symm.trans running) nofun
      · next settings =>
        exact State.EngineSide.lookForNotice
          ⟨⟨rfl, fun _ => rfl, nofun⟩, list, take, write, accesses, ⟨free, notice, fun _ => settings⟩, registers⟩
    · exact h
  · next running =>
    split
    · exact h
    · refine ⟨⟨?_, nofun, fun _ => rfl⟩, list, take, write, accesses,
        ⟨free, notice, fun active => checks (.inr (active.resolve_left nofun))⟩, registers⟩
      rw [running] at shows
      show EngineState.shows .stopped s.engine.fault = true
      cases fault : s.engine.fault with
      | none | badConfig => rfl
      | cqRead | eqWrite => rw [fault] at shows; exact shows
  · exact h.setRefused

/-- An engine with nothing open and no access in flight stands as the manual says (R122, R123). -/
theorem State.EngineSide.of_reset {t : State} (stopped : t.engine.state = .stopped) (run : t.engine.run = false)
    (fault : t.engine.fault = .none) (list : t.engine.openList = []) (credits : t.engine.credits = 0)
    (read : t.engine.cmdRead = none) (take : t.engine.takeOk) (write : t.events.write = none) (registers : t.registersOk) :
    t.EngineSide := by
  refine ⟨⟨?_, ?_, fun _ => run⟩, t.engine.listOk_iff.mpr ⟨?_, ?_, ?_⟩, take, ?_, ⟨?_, ?_, ?_⟩, ⟨?_, ?_, ?_⟩, registers⟩
  · rw [stopped, fault]; rfl
  · rw [stopped]; nofun
  · rw [credits, list]; rfl
  · rw [list]; exact ⟨Nat.zero_le _, Nat.zero_le _, fun _ hx => absurd hx List.not_mem_nil⟩
  · rw [list]; rfl
  · rw [State.writeOk, write]
  · rw [read]; nofun
  · rw [write]; nofun
  · rw [read]; nofun
  · rw [credits]; exact Nat.zero_le _
  · exact fun _ => .inl credits
  · rw [stopped, list]; exact fun active => active.elim nofun (absurd rfl)

theorem State.powerOn_engineSide : s.powerOn.EngineSide :=
  .of_reset rfl rfl rfl rfl rfl rfl (Engine.takeOk_of_none (fun _ hx => absurd hx List.not_mem_nil) rfl rfl rfl) rfl
    ⟨Nat.zero_le _, Nat.zero_le _, rfl⟩

theorem State.afterDeviceReset_engineSide : s.afterDeviceReset.EngineSide :=
  .of_reset rfl rfl rfl rfl rfl rfl (Engine.takeOk_of_none (fun _ hx => absurd hx List.not_mem_nil) rfl rfl rfl) rfl
    ⟨Nat.zero_le _, Nat.zero_le _, rfl⟩

/-- Engine reset leaves a checked command without an entry, to be executed (R122, log 5). -/
theorem State.EngineSide.afterEngineReset (h : s.EngineSide) : s.afterEngineReset.EngineSide := by
  obtain ⟨-, -, ⟨-, -, -, reads, fits⟩, -, -, -, registers⟩ := h
  refine .of_reset rfl rfl rfl rfl rfl rfl ⟨rfl, ?_, nofun, reads, ?_⟩ rfl registers
  · show false = (false || (s.engine.checked.isSome && !true))
    rw [Bool.not_true, Bool.and_false]; rfl
  · show s.engine.checked.all _ = true
    cases checked : s.engine.checked with
    | none => rfl
    | some c =>
      rw [checked] at fits
      exact Bool.and_eq_true_iff.mpr ⟨(Bool.and_eq_true_iff.mp fits).1, rfl⟩

/-- A taken CMD_TAIL value lies in the ring (R107). -/
theorem execCmdTailWrite_engineSide (h : s.EngineSide) (value : Word) :
    Ensures State.EngineSide (execCmdTailWrite value s) := by
  refine ensures_hostAccess h ?_
  split
  · next taken =>
    refine h.withRegs (.inr ⟨Nat.le_refl _, fun settings => ?_⟩) h.2.2.2.2.2.2.1 h.2.2.2.2.2.2.2.1
    rw [State.runCheck_eq_none] at settings ⊢
    obtain ⟨base, size, ⟨-, head⟩, rest⟩ := settings
    rw [State.tailTaken, if_pos size] at taken
    exact ⟨base, size, ⟨of_decide_eq_true taken, head⟩, rest⟩
  · exact h.setRefused

/-- An EVT_HEAD value on the cyclic run from the head to the tail leaves fewer entries unconsumed (R147). -/
theorem ringDistance_le_of_between {n a b c : Nat} (ha : a < n) (hb : b < n) (hc : c < n)
    (h : ringDistance n a b ≤ ringDistance n a c) : ringDistance n a b + ringDistance n b c = ringDistance n a c := by
  rw [ringDistance_eq ha hb, ringDistance_eq ha hc] at h ⊢
  rw [ringDistance_eq hb hc]
  split_ifs at h ⊢ <;> omega

/-- A taken EVT_HEAD value releases entries and keeps the ring settings (R147). -/
theorem State.headTaken_settings {v : Nat} (taken : s.headTaken v = true) :
    s.freeEntries ≤ (s.withRegs { s.regs with evtHead := v }).freeEntries ∧
      (s.runCheck = none → (s.withRegs { s.regs with evtHead := v }).runCheck = none) := by
  unfold State.headTaken at taken
  split at taken
  · next valid =>
    simp only [State.eventIndicesValid, Bool.and_eq_true, decide_eq_true_eq] at valid taken
    obtain ⟨⟨-, head⟩, tail⟩ := valid
    obtain ⟨inside, near⟩ := taken
    have between := ringDistance_le_of_between head inside tail near
    refine ⟨?_, fun settings => ?_⟩
    · show s.regs.evtRingSize - 1 - ringDistance s.regs.evtRingSize s.regs.evtHead s.events.tail ≤
        s.regs.evtRingSize - 1 - ringDistance s.regs.evtRingSize v s.events.tail
      omega
    · rw [State.runCheck_eq_none] at settings ⊢
      obtain ⟨base, size, indices, base', size', -, tail'⟩ := settings
      exact ⟨base, size, indices, base', size', inside, tail'⟩
  · rw [of_decide_eq_true taken]
    exact ⟨Nat.le_refl _, id⟩

theorem execEvtHeadWrite_engineSide (h : s.EngineSide) (value : Word) :
    Ensures State.EngineSide (execEvtHeadWrite value s) := by
  refine ensures_hostAccess h ?_
  split
  · next taken =>
    exact (h.withRegs (g := { s.regs with evtHead := value.toNat }) (.inr (State.headTaken_settings taken))
      h.2.2.2.2.2.2.1 h.2.2.2.2.2.2.2.1).lookForNotice
  · exact h.setRefused

theorem Registers.setGeometry_notify (g : Registers) (reg : GeometryReg) (value : Word) :
    (g.setGeometry reg value).notifyLevel = g.notifyLevel ∧ (g.setGeometry reg value).notifyQuiet = g.notifyQuiet := by
  cases reg <;> exact ⟨rfl, rfl⟩

theorem execRingGeometryWrite_engineSide (h : s.EngineSide) (reg : GeometryReg) (value : Word) :
    Ensures State.EngineSide (execRingGeometryWrite reg value s) := by
  obtain ⟨level, quiet⟩ := s.regs.setGeometry_notify reg value
  refine ensures_hostAccess h ?_
  split
  · next idle =>
    exact h.withRegs (.inl idle) (level ▸ h.2.2.2.2.2.2.1) (quiet ▸ h.2.2.2.2.2.2.2.1)
  · exact h.setRefused

theorem execNotifyLevelWrite_engineSide (h : s.EngineSide) (value : Word) :
    Ensures State.EngineSide (execNotifyLevelWrite value s) := by
  refine ensures_hostAccess h ?_
  split
  · next fits => exact h.withRegs (.inr ⟨Nat.le_refl _, id⟩) fits h.2.2.2.2.2.2.2.1
  · exact h.setRefused

theorem execNotifyQuietWrite_engineSide (h : s.EngineSide) (value : Word) :
    Ensures State.EngineSide (execNotifyQuietWrite value s) := by
  refine ensures_hostAccess h ?_
  split
  · next fits => exact h.withRegs (.inr ⟨Nat.le_refl _, id⟩) h.2.2.2.2.2.2.1 fits
  · exact h.setRefused

theorem execRegisterWriteOther_engineSide (h : s.EngineSide) (offset : Nat) (width : AccessWidth) :
    Ensures State.EngineSide (execRegisterWriteOther offset width s) := by
  refine ensures_hostAccess h ?_
  split
  · exact h.setRefused
  · exact h

theorem execStatusWrite_engineSide (h : s.EngineSide) (value : Word) :
    Ensures State.EngineSide (execStatusWrite value s) :=
  ensures_hostAccess h (h.withRegs (.inr ⟨Nat.le_refl _, id⟩) h.2.2.2.2.2.2.1 h.2.2.2.2.2.2.2.1)

theorem execPowerOnReset_engineSide (h : s.EngineSide) (cause : ResetCause) :
    Ensures State.EngineSide (execPowerOnReset cause s) := by
  have cut : EngineMove s s.drawFree.cutFrame.lowerReset := by
    unfold State.cutFrame
    split <;> exact .of_same rfl rfl rfl rfl rfl rfl
  unfold execPowerOnReset
  split
  · exact ensures_next.mpr s.powerOn_engineSide
  · split
    · exact ensures_next.mpr s.powerOn_engineSide
    · split
      · exact ensures_next.mpr State.powerOn_engineSide
      · exact ensures_next.mpr (h.move cut)

/-! ### The rows of the filing path and of the frames -/

theorem State.fileData_engineMove (source : Addr) (key : Key) (payload : List Byte) :
    EngineMove s (s.fileData source key payload) := by
  rw [State.fileData_frame]
  exact .of_same rfl rfl rfl rfl rfl rfl

theorem State.fileSolicit_engineMove (key : Key) : EngineMove s (s.fileSolicit key) := by
  rw [State.fileSolicit_frame]
  exact .of_same rfl rfl rfl rfl rfl rfl

theorem State.handOn_engineMove (r : FilingRequest) : EngineMove s (s.handOn r) := .of_same rfl rfl rfl rfl rfl rfl

theorem execFileData_engineSide (h : s.EngineSide) : Ensures State.EngineSide (execFileData s) := by
  have taken : s.takeFiling.EngineSide := h.move (.of_same rfl rfl rfl rfl rfl rfl)
  rw [execFileData, ensures_next]
  split
  · split
    · exact (taken.move (State.fileData_engineMove _ _ _)).lookForNotice
    · exact h
  · exact h

theorem execFileSolicit_engineSide (h : s.EngineSide) : Ensures State.EngineSide (execFileSolicit s) := by
  have taken : s.takeFiling.EngineSide := h.move (.of_same rfl rfl rfl rfl rfl rfl)
  rw [execFileSolicit, ensures_next]
  split
  · split
    · exact (taken.move (State.fileSolicit_engineMove _)).lookForNotice
    · exact h
  · exact h

theorem State.arriveAndFile_engineMove (a : Arrival) (r : FilingRequest) : EngineMove s (s.arriveAndFile a r) := by
  unfold State.arriveAndFile
  split
  · exact (s.arrive_move a).engineMove.trans (State.handOn_engineMove r)
  · exact (LinkMove.refl s).engineMove

theorem execFindAndSnapshot_engineSide (h : s.EngineSide) : Ensures State.EngineSide (execFindAndSnapshot s) := by
  rw [execFindAndSnapshot, ensures_next]
  split
  · split
    · next k _ =>
      have cleared : EngineMove s (s.withSlot k { s.slots[k] with sendPending := false }) :=
        .of_same rfl rfl rfl rfl rfl rfl
      exact h.move (cleared.trans (s.startSlotFrame_move k).engineMove)
    · exact h.move s.sendingEnded_move.reported.engineMove
  · exact h

theorem execFrameEnd_engineSide (h : s.EngineSide) : Ensures State.EngineSide (execFrameEnd s) := by
  rw [execFrameEnd, ensures_next]
  split
  · next x _ =>
    split
    · obtain ⟨u, moved, ended⟩ := s.endSlotFrame_move x
      have after : EngineMove s (s.endSlotFrame x) := by
        rw [ended]
        split
        · exact moved.engineMove.trans (State.handOn_engineMove _)
        · exact moved.engineMove
      exact h.move (after.trans (State.afterSlotFrame_move _).reported.engineMove)
    · exact h
  · exact h

/-! ### Every row keeps the engine and the event writer in order -/

theorem State.EngineSide.of_move (h : s.EngineSide) {o : Host.Outcome State Fault Refusal}
    (m : Ensures (LinkMove s) o) : Ensures State.EngineSide o := fun t e => h.move (m t e).engineMove

theorem exec_keeps_engineSide (h : s.EngineSide) (c : Instr) : Ensures State.EngineSide (exec c s) := by
  cases c with
  | powerOnReset cause => exact execPowerOnReset_engineSide h cause
  | deviceReset => exact ensures_hostAccess h s.afterDeviceReset_engineSide
  | engineReset run => exact ensures_hostAccess h (h.afterEngineReset.controlRun run)
  | runSet => exact ensures_hostAccess h (h.controlRun true)
  | runClear => exact ensures_hostAccess h (h.controlRun false)
  | statusWrite value => exact execStatusWrite_engineSide h value
  | ringGeometryWrite reg value => exact execRingGeometryWrite_engineSide h reg value
  | cmdTailWrite value => exact execCmdTailWrite_engineSide h value
  | evtHeadWrite value => exact execEvtHeadWrite_engineSide h value
  | notifyLevelWrite value => exact execNotifyLevelWrite_engineSide h value
  | notifyQuietWrite value => exact execNotifyQuietWrite_engineSide h value
  | registerWriteOther offset width => exact execRegisterWriteOther_engineSide h offset width
  | takeBegin => exact execTakeBegin_engineSide h
  | cqReadFail access => exact execCqReadFail_engineSide h access
  | nop => exact execNop_engineSide h
  | store => exact execStore_engineSide h
  | fetch => exact execFetch_engineSide h
  | send => exact execSend_engineSide h
  | cancel => exact execCancel_engineSide h
  | tableClear => exact execTableClear_engineSide h
  | linkStart => exact execLinkStart_engineSide h
  | linkStop => exact execLinkStop_engineSide h
  | mapRead part => exact execMapRead_engineSide h part
  | barrier => exact execBarrier_engineSide h
  | completionWrite => exact execCompletionWrite_engineSide h
  | linkNoticeWrite => exact execLinkNoticeWrite_engineSide h
  | readForNotice => exact execReadForNotice_engineSide h
  | eventWriteDone access => exact execEventWriteDone_engineSide h access
  | eventWriteFail access => exact execEventWriteFail_engineSide h access
  | busResponseTimeout access => exact execBusResponseTimeout_engineSide h access
  | quietTimerExpiry => exact ensures_next.mpr (h.move (.of_same rfl rfl rfl rfl rfl rfl))
  | activityStart clocks => exact h.of_move (execActivityStart_move s clocks)
  | dataFrame source key payload =>
    rw [exec_dataFrame, execDataFrame, ensures_next]
    split
    · exact h.move (State.arriveAndFile_engineMove _ _)
    · exact h.move (s.arrive_move _).engineMove
  | solicitFrame source key => exact ensures_next.mpr (h.move (State.arriveAndFile_engineMove _ _))
  | tokenFrame source d | inviteFrame source d | joinFrame source d =>
    exact ensures_next.mpr (h.move (s.arriveAddressed_move d _).engineMove)
  | claimFrame | foreignFrame | garbledFrame => exact ensures_next.mpr (h.move (s.arrive_move _).engineMove)
  | fileData => exact execFileData_engineSide h
  | fileSolicit => exact execFileSolicit_engineSide h
  | silenceTimeout => exact h.of_move (execSilenceTimeout_move s)
  | responseWindowExpiry => exact h.of_move (execResponseWindowExpiry_move s)
  | lonePauseEnd => exact h.of_move (execLonePauseEnd_move s)
  | sendOpportunity => exact h.of_move (execSendOpportunity_move s)
  | findAndSnapshot => exact execFindAndSnapshot_engineSide h
  | ringFrameStart => exact h.of_move (execRingFrameStart_move s)
  | frameEnd => exact execFrameEnd_engineSide h
  | ringFrameEnd => exact h.of_move (execRingFrameEnd_move s)
  | takeEnd access record => exact execTakeEnd_engineSide h access record
  | leaveReset => exact ensures_next.mpr (h.move (.of_same rfl rfl rfl rfl rfl rfl))

/-- The response timers count and nothing else of the invariants changes (R166). -/
theorem State.EngineSide.count (h : s.EngineSide) :
    ((s.withEngine s.engine.tick).withEvents s.events.tick).EngineSide := by
  obtain ⟨shows, list, ⟨before, any, free, reads, fits⟩, write, ⟨readsBefore, writesBefore, differ⟩,
    ⟨room, notice, checks⟩, registers⟩ := h
  have ticked (w : EventWrite) (hw : s.events.tick.write = some w) :
      ∃ v, s.events.write = some v ∧ w.access = v.access ∧ w.record = v.record ∧ w.source = v.source := by
    obtain ⟨v, hv, rfl⟩ := Option.map_eq_some_iff.mp hw
    exact ⟨v, hv, rfl, rfl, rfl⟩
  have counted (r : CommandRead) (hr : s.engine.tick.cmdRead = some r) :
      ∃ q, s.engine.cmdRead = some q ∧ r.access = q.access := by
    obtain ⟨q, hq, rfl⟩ := Option.map_eq_some_iff.mp hr
    exact ⟨q, hq, rfl⟩
  have reading : s.engine.tick.cmdRead.isSome = s.engine.cmdRead.isSome := Option.isSome_map
  refine ⟨shows, list, ⟨before, ?any, ?free, reads, fits⟩, (State.writeOk_iff _).mpr ?write, ⟨?reads, ?writes, ?differ⟩,
    ⟨room, ?notice, checks⟩, registers⟩
  case any => exact any.trans (by rw [← reading]; rfl)
  case free => exact fun under => free (reading ▸ under)
  case write =>
    intro w hw
    obtain ⟨v, hv, -, record, source⟩ := ticked w hw
    rw [record, source]
    exact s.writeOk_iff.mp write v hv
  case reads =>
    intro r hr
    obtain ⟨q, hq, asked⟩ := counted r hr
    exact asked.trans_lt (readsBefore q hq)
  case writes =>
    intro w hw
    obtain ⟨v, hv, access, -⟩ := ticked w hw
    exact access.trans_lt (writesBefore v hv)
  case differ =>
    intro r w hr hw
    obtain ⟨q, hq, asked⟩ := counted r hr
    obtain ⟨v, hv, access, -⟩ := ticked w hw
    rw [asked, access]
    exact differ q v hq hv
  case notice =>
    intro flying
    refine notice ?_
    rw [← Bool.not_eq_false, State.noticeInFlight_iff] at flying ⊢
    exact fun ground => flying fun w hw => by
      obtain ⟨v, hv, -, -, source⟩ := ticked w hw
      exact source ▸ ground v hv

/-- One clock counts the response timers and the quiet timer, and changes no more of the engine and the event writer. -/
theorem State.EngineSide.tick (h : s.EngineSide) : s.tick.EngineSide := by
  unfold State.tick
  split
  · exact h
  · exact h.count.move (.of_same rfl rfl rfl rfl rfl rfl)

end

/-! ### The statement -/

/-- Settles O59: the engine and the event writer under every row, and under the clock. -/
theorem stepKeepsEngineAndEvents : Obligations.StepKeepsEngineAndEvents := by
  unfold Obligations.StepKeepsEngineAndEvents
  intro s t inv stepped
  exact step_ensures inv (fun c _ inv => exec_keeps_engineSide inv.2.1 c) (State.EngineSide.tick inv.2.1) t stepped

end Sys2Proof.Machine
end

section
/-!
PROOFS. The link between the steps: what holds of the ring controller, the line unit and the send scheduler together,
and that every shared step of the ring controller keeps it. That the last link change has been handed on is kept apart:
a step may break it, and the comparison that ends the step mends it (R84).
-/
namespace Sys2Proof.Machine

/-! ### What holds of the three blocks -/

/-- The ring controller's own part: R65, R82, R64, R66, R40, R39, R81, R86, Table 4-1, R68. -/
structure RingFits (r : Ring) : Prop where
  ownMark : r.link ≠ .off → marked r.liveMap r.ownAddress = true
  unheardMax : r.unheard ≤ 6
  withdrawn : r.unheard = 6 ↔ r.link = .withdrawn
  awaited : r.awaited.isSome = r.link.awaits
  notSelf : r.link = .passing ∨ r.link = .inviting → r.awaited ≠ some r.ownAddress
  silence : r.silence.isStopped = !r.link.runsTimers
  window : r.window.isStopped = false → r.link.awaits = true
  pause : r.pause.isStopped = false → r.link = .holding
  stop : r.stopRequest = true → r.link.silent = false ∧ r.window.isStopped = true ∧ r.pause.isStopped = true
  budget : 1 ≤ r.budget ∧ r.budget ≤ 15
  interval : r.inviteInterval ≤ 255
  countdown : r.inviteCountdown ≤ 255
  listenOnly : r.listenOnly = true → r.link = .off ∨ r.link = .listen

/-- A frame of the part is in flight (R35, R90). -/
abbrev InFlight (l : LineUnit) (c : Scheduler) : Prop := c.snapshot.isSome = true ∨ l.ringFrame.isSome = true

/-- The line unit against the other two blocks (R35, R36, R90). -/
structure LineFits (r : Ring) (l : LineUnit) (c : Scheduler) : Prop where
  receiver : l.receiver = .stopped ↔ r.link = .off
  sending : InFlight l c → r.link.silent = false ∧ l.waiting = none ∧ l.receiver ≠ .assembling
    ∧ r.window.isStopped = true ∧ r.pause.isStopped = true
  snapshot : c.snapshot.isSome = true → l.ringFrame = none ∧ c.holding = true
  frame : ∀ f, l.ringFrame = some f → f.fits r.link r.stopRequest c.holding = true
  request : ∀ w, l.waiting = some w → w.fits r c = true

/-- The send scheduler against the ring controller (R90 to R92, R97, R102, R103). -/
structure SchedFits (r : Ring) (c : Scheduler) : Prop where
  holding : c.holding = true → r.link = .holding ∧ r.pause.isStopped = true ∧ c.sendingOpen = true
  framesMax : c.framesLeft ≤ 15
  framesNone : c.holding = false → c.framesLeft = 0
  frameLeft : c.snapshot.isSome = true → 1 ≤ c.framesLeft
  stopped : c.stopRequest = true → r.stopRequest = true
  forbidden : r.stopRequest = true → r.link = .holding → c.stopRequest = true

/-- The three blocks together. -/
structure Linked (s : State) : Prop where
  ring : RingFits s.ring
  line : LineFits s.ring s.line s.sched
  sched : SchedFits s.ring s.sched

theorem inFlight_iff (s : State) : s.transmitting = true ↔ InFlight s.line s.sched := by
  simp [State.transmitting]

/-- The link's part of the invariants is that the blocks fit and the last change has been handed on. -/
theorem linked_iff (s : State) :
    (s.ring.nodeOk ∧ s.ring.timersOk ∧ s.ring.optionsOk) ∧ s.lineOk ∧ s.sendingOk ↔
      Linked s ∧ s.ring.changed = false := by
  constructor
  · rintro ⟨⟨⟨n1, n2, n3, n4, n5⟩, ⟨t1, t2, t3, t4⟩, o1, o2, o3, o4, o5, o6⟩, ⟨l1, l2, l3, l4, l5⟩, c1, c2, c3, c4, c5, c6⟩
    exact ⟨⟨⟨n1, n2, n3, n4, n5, t1, t2, t3, t4, ⟨o1, o2⟩, o3, o4, o5⟩,
      ⟨l1, fun f => l2 ((inFlight_iff s).mpr f), l3, fun f e => by rw [e] at l4; exact l4,
        fun w e => by rw [e] at l5; exact l5⟩, ⟨c1, c2, c3, c4, c5, c6⟩⟩, o6⟩
  · rintro ⟨⟨⟨n1, n2, n3, n4, n5, t1, t2, t3, t4, ⟨o1, o2⟩, o3, o4, o5⟩, ⟨l1, l2, l3, l4, l5⟩, c1, c2, c3, c4, c5, c6⟩, o6⟩
    refine ⟨⟨⟨n1, n2, n3, n4, n5⟩, ⟨t1, t2, t3, t4⟩, o1, o2, o3, o4, o5, o6⟩,
      ⟨l1, fun f => l2 ((inFlight_iff s).mp f), l3, ?_, ?_⟩, c1, c2, c3, c4, c5, c6⟩
    · cases e : s.line.ringFrame with
      | none => rfl
      | some f => exact l4 f e
    · cases e : s.line.waiting with
      | none => rfl
      | some w => exact l5 w e


/-! ### The ring controller's own part -/

theorem Timer.tick_isStopped (limit : Nat) (t : Timer) : (t.tick limit).isStopped = t.isStopped := by
  cases t <;> rfl

theorem Timer.hold_isStopped (t : Timer) : t.hold.isStopped = t.isStopped := by
  cases t <;> rfl

/-- A silent link that runs its ring timers is in LISTEN or MEMBER. -/
theorem LinkState.silent_cases {l : LinkState} (silent : l.silent = true) (runs : l.runsTimers = true) :
    l = .listen ∨ l = .member := by
  cases l <;> simp_all [LinkState.silent, LinkState.runsTimers]

/-- A link that is not silent runs its ring timers. -/
theorem LinkState.runsTimers_of_not_silent {l : LinkState} (h : l.silent = false) : l.runsTimers = true := by
  cases l <;> simp_all [LinkState.silent, LinkState.runsTimers]

/-- The window and the pause both stopped. -/
abbrev Ring.Settled (r : Ring) : Prop := r.window.isStopped = true ∧ r.pause.isStopped = true

namespace RingFits

variable {r : Ring}

/-- A part that runs its ring timers is not withdrawn: its unheard count is below the limit (R82). -/
theorem unheard_lt (h : RingFits r) (runs : r.link.runsTimers = true) : r.unheard < 6 := by
  have below : r.unheard ≠ 6 := fun e => by simp [LinkState.runsTimers, h.withdrawn.mp e] at runs
  have := h.unheardMax
  omega

/-- No stop request stands in a silent state (R86). -/
theorem stop_false (h : RingFits r) (silent : r.link.silent = true) : r.stopRequest = false := by
  cases e : r.stopRequest with
  | false => rfl
  | true => rw [(h.stop e).1] at silent; exact absurd silent (by decide)

/-- A listen-only part is in OFF or LISTEN (R68). -/
theorem listenOnly_false (h : RingFits r) (link : r.link ≠ .off ∧ r.link ≠ .listen) : r.listenOnly = false :=
  Bool.eq_false_iff.mpr fun only => (h.listenOnly only).elim link.1 link.2

/-- An entry to HOLDING (R73). -/
theorem enterHolding (h : RingFits r) (runs : r.link.runsTimers = true) (sends : r.listenOnly = false) :
    RingFits r.enterHolding := by
  have below := h.unheard_lt runs
  have countdown : r.stepCountdown ≤ 255 := by
    have := h.countdown
    unfold Ring.stepCountdown
    split <;> omega
  obtain ⟨h1, h2, h3, h4, h5, h6, h7, h8, h9, h10, h11, h12, h13⟩ := h
  constructor <;> simp_all [Ring.enterHolding, LinkState.awaits, LinkState.runsTimers, LinkState.silent, Timer.isStopped]

/-- OFF is reached (R87). -/
theorem reachOff (h : RingFits r) : RingFits r.reachOff := by
  have below : (if r.link = .withdrawn then 0 else r.unheard) < 6 := by
    have max := h.unheardMax
    have limit := h.withdrawn
    split
    · omega
    · next on => have : r.unheard ≠ 6 := fun e => on (limit.mp e)
                 omega
  obtain ⟨h1, h2, h3, h4, h5, h6, h7, h8, h9, h10, h11, h12, h13⟩ := h
  constructor <;> simp_all [Ring.reachOff, LinkState.awaits, LinkState.runsTimers, Timer.isStopped]
  all_goals omega

/-- WITHDRAWN is entered (R82, R83). -/
theorem withdraw (h : RingFits r) (runs : r.link.runsTimers = true) (sends : r.listenOnly = false)
    (go : r.stopRequest = false) : RingFits r.withdraw := by
  obtain ⟨h1, h2, h3, h4, h5, h6, h7, h8, h9, h10, h11, h12, h13⟩ := h
  constructor <;> simp_all [Ring.withdraw, LinkState.awaits, LinkState.runsTimers, Timer.isStopped, Config.unheardLimit]

/-- The link leaves for LISTEN or MEMBER, with some unheard count below the limit (R71, R75, R79, R82). -/
theorem leave (h : RingFits r) (runs : r.link.runsTimers = true) (settled : r.Settled) (go : r.stopRequest = false)
    {target : LinkState} (silent : target = .listen ∨ target = .member ∧ r.listenOnly = false) {n : Nat} (below : n < 6) :
    RingFits { r with link := target, awaited := none, unheard := n } := by
  obtain ⟨h1, h2, h3, h4, h5, h6, h7, h8, h9, h10, h11, h12, h13⟩ := h
  rcases silent with rfl | ⟨rfl, sends⟩ <;> constructor <;>
    simp_all [LinkState.awaits, LinkState.runsTimers] <;> omega

/-- A frame that awaits an answer begins (R70, R74, R78, R80). -/
theorem awaitAnswer (h : RingFits r) (runs : r.link.runsTimers = true) (settled : r.Settled) (go : r.stopRequest = false)
    (sends : r.listenOnly = false) {link : LinkState}
    (awaits : link = .joining ∨ link = .inviting ∨ link = .passing) {d : Addr}
    (other : link = .joining ∨ d ≠ r.ownAddress) {attempt : Attempt} {cursor : Addr} {n : Nat} (countdown : n ≤ 255) :
    RingFits { r with
      link := link, awaited := some d, attempt := attempt, inviteCursor := cursor, inviteCountdown := n
      silence := r.silence.release } := by
  have below := h.unheard_lt runs
  obtain ⟨h1, h2, h3, h4, h5, h6, h7, h8, h9, h10, h11, h12, h13⟩ := h
  rcases awaits with rfl | rfl | rfl <;> constructor <;>
    simp_all [LinkState.awaits, LinkState.runsTimers, Timer.release_isStopped]

/-- LINK_START (Table 4-1, R85). -/
theorem start (r : Ring) {o : LinkOptions} (wf : (Command.linkStart o).wf = true) : RingFits (r.start o) := by
  simp only [Command.wf, Bool.and_eq_true, decide_eq_true_eq] at wf
  constructor <;> simp_all [Ring.start, LinkState.awaits, LinkState.runsTimers, Timer.isStopped, marked_setMark]

/-- The stop request stands (R86). -/
theorem standStop (h : RingFits r) (link : r.link.silent = false) :
    RingFits { r with stopRequest := true, window := .stopped, pause := .stopped } where
  __ := h
  window := fun running => by simp [Timer.isStopped] at running
  pause := fun running => by simp [Timer.isStopped] at running
  stop := fun _ => ⟨link, rfl, rfl⟩

/-- The lone pause begins (R41, R81). -/
theorem beginPause (h : RingFits r) (runs : r.link.runsTimers = true) (settled : r.Settled) (go : r.stopRequest = false)
    (sends : r.listenOnly = false) :
    RingFits { r with link := .holding, awaited := none, pause := .running 0 } := by
  have below := h.unheard_lt runs
  obtain ⟨h1, h2, h3, h4, h5, h6, h7, h8, h9, h10, h11, h12, h13⟩ := h
  constructor <;> simp_all [LinkState.awaits, LinkState.runsTimers]

/-- The timers move on without one starting or stopping. -/
theorem timers (h : RingFits r) {window silence pause : Timer} (hw : window.isStopped = r.window.isStopped)
    (hs : silence.isStopped = r.silence.isStopped) (hp : pause.isStopped = r.pause.isStopped) :
    RingFits { r with window := window, silence := silence, pause := pause } where
  __ := h
  silence := hs.trans h.silence
  window := fun running => h.window (hw ▸ running)
  pause := fun running => h.pause (hp ▸ running)
  stop := fun stop => ⟨(h.stop stop).1, hw.trans (h.stop stop).2.1, hp.trans (h.stop stop).2.2⟩

/-- The window and the pause are settled (R67). -/
theorem settle (h : RingFits r) : RingFits { r with window := .stopped, pause := .stopped } where
  __ := h
  window := fun running => by simp [Timer.isStopped] at running
  pause := fun running => by simp [Timer.isStopped] at running
  stop := fun stop => ⟨(h.stop stop).1, rfl, rfl⟩

/-- The silence timer restarts (R40, R83). -/
theorem restartSilence (h : RingFits r) : RingFits r.restartSilence := by
  unfold Ring.restartSilence
  split
  · next runs => exact h.timers rfl (by rw [h.silence, runs]; rfl) rfl
  · exact h

/-- The silence timer runs on where an activity held it. -/
theorem releaseSilence (h : RingFits r) : RingFits { r with silence := r.silence.release } :=
  h.timers rfl r.silence.release_isStopped rfl

/-- The response window starts (R39). -/
theorem startWindow (h : RingFits r) (awaits : r.link.awaits = true) (go : r.stopRequest = false) :
    RingFits { r with window := .running 0 } where
  __ := h
  window := fun _ => awaits
  stop := fun stop => by rw [go] at stop; exact absurd stop (by decide)

/-- The unheard count set to 0 in a state that counts it (R71, R79). -/
theorem heard (h : RingFits r) (runs : r.link.runsTimers = true) : RingFits { r with unheard := 0 } where
  __ := h
  unheardMax := Nat.zero_le 6
  withdrawn := by
    have := h.unheard_lt runs
    constructor
    · exact fun e => absurd (show 0 = 6 from e) (by decide)
    · exact fun e => absurd (h.withdrawn.mpr e) (by omega)

/-- The source of an arrival is marked (R42, R65). -/
theorem markSource (h : RingFits r) (a : Arrival) : RingFits (r.markSource a) := by
  rw [Ring.markSource_eq]
  exact { h with
    ownMark := fun on => by
      have own := h.ownMark on
      dsimp only
      split
      · rw [marked_setMark, own]; rfl
      · exact own }

/-- The mark of the awaited node is cleared in PASSING: never the own one (R80). -/
theorem clearAwaited (h : RingFits r) (passing : r.link = .passing) : RingFits r.clearAwaited := by
  unfold Ring.clearAwaited
  split
  · next a awaited =>
    exact { h with
      ownMark := fun on => by
        have other : a ≠ r.ownAddress := fun e => h.notSelf (.inl passing) (by rw [awaited, e])
        show marked (clearMark r.liveMap a) r.ownAddress = true
        rw [marked_clearMark, h.ownMark on, decide_eq_true other]; rfl }
  · exact h

theorem atReset : RingFits Ring.atReset := by
  constructor <;> simp [Ring.atReset, LinkState.awaits, LinkState.runsTimers, Timer.isStopped]

end RingFits

/-! ### The line unit and the send scheduler -/

/-- No frame of the part is in flight. -/
abbrev Quiet (l : LineUnit) (c : Scheduler) : Prop := c.snapshot = none ∧ l.ringFrame = none

theorem quiet_iff (s : State) : s.transmitting = false ↔ Quiet s.line s.sched := by
  simp [State.transmitting]

theorem Quiet.not_inFlight {l : LineUnit} {c : Scheduler} (h : Quiet l c) : ¬ InFlight l c := by
  simp [InFlight, h.1, h.2]

namespace LineFits

variable {r q : Ring} {l m : LineUnit} {c d : Scheduler}

/-- A line with no frame of the part. -/
theorem of_quiet (receiver : l.receiver = .stopped ↔ r.link = .off) (quiet : Quiet l c)
    (request : ∀ w, l.waiting = some w → w.fits r c = true) : LineFits r l c where
  receiver := receiver
  sending := fun f => absurd f quiet.not_inFlight
  snapshot := fun f => by rw [quiet.1] at f; exact absurd f (by decide)
  frame := fun f e => by rw [quiet.2] at e; exact nomatch e
  request := request

/-- A line with no frame of the part and nothing waiting. -/
theorem of_idle (receiver : l.receiver = .stopped ↔ r.link = .off) (quiet : Quiet l c) (idle : l.waiting = none) :
    LineFits r l c :=
  of_quiet receiver quiet fun w e => by rw [idle] at e; exact nomatch e

/-- The line right after a frame of the ring controller has begun (R35, R36). -/
theorem of_begun {f : RingFrame} (receiver : l.receiver = .stopped ↔ r.link = .off) (quiet : c.snapshot = none)
    (link : r.link.silent = false) (settled : r.Settled) (fits : f.fits r.link r.stopRequest c.holding = true) :
    LineFits r (l.beginFrame (some f)) c where
  receiver := by
    rw [← receiver]
    unfold LineUnit.beginFrame
    dsimp only
    split
    · next assembling => simp [assembling]
    · exact Iff.rfl
  sending := fun _ => by
    refine ⟨link, rfl, ?_, settled⟩
    unfold LineUnit.beginFrame
    dsimp only
    split
    · decide
    · assumption
  snapshot := fun f => by rw [quiet] at f; exact absurd f (by decide)
  frame := fun g e => by cases e; exact fits
  request := fun w e => nomatch e

/-- Where the part sends, the ring is settled and nothing waits. -/
theorem waiting_none (h : LineFits r l c) (f : InFlight l c) : l.waiting = none := (h.sending f).2.1

end LineFits

/-- A holding ended leaves no frame to the scheduler (R97, R102). -/
theorem SchedFits.endHolding {r q : Ring} {c : Scheduler} (h : SchedFits r c) (quiet : c.snapshot = none)
    (stop : q.stopRequest = r.stopRequest) (link : q.link = .holding → r.link = .holding) : SchedFits q c.endHolding where
  holding := fun f => nomatch f
  framesMax := Nat.zero_le 15
  framesNone := fun _ => rfl
  frameLeft := fun f => by
    rw [show c.endHolding.snapshot = none from quiet] at f
    exact absurd f (by decide)
  stopped := fun f => stop.trans (h.stopped f)
  forbidden := fun f on => h.forbidden (stop.symm.trans f) (link on)

/-- No stop request of the scheduler stands without the ring controller's. -/
theorem SchedFits.stop_false {r : Ring} {c : Scheduler} (h : SchedFits r c) (go : r.stopRequest = false) :
    c.stopRequest = false :=
  Bool.eq_false_iff.mpr fun stop => by rw [h.stopped stop] at go; exact nomatch go

end Sys2Proof.Machine
end

section
/-!
PROOFS. The shared steps of the ring controller on the whole part: each keeps the three blocks of the link fitting, and
leaves a frame, a wait or a timer behind wherever the part must not stay without one (R70, R74, R78, R79, R81).
-/
namespace Sys2Proof.Machine

/-! ### Nothing is waited for in vain -/

/-- In a silent state nothing need move. -/
theorem State.progressOk_of_silent {s : State} (h : s.ring.link.silent = true) : s.progressOk :=
  fun not => by rw [h] at not; exact nomatch not

theorem State.progressOk_of_waiting {s : State} {w : Waiting} (h : s.line.waiting = some w) : s.progressOk :=
  fun _ => .inr (.inl (by rw [h]; rfl))

theorem State.progressOk_of_frame {s : State} {f : RingFrame} (h : s.line.ringFrame = some f) : s.progressOk :=
  fun _ => .inl ((inFlight_iff s).mpr (.inr (by rw [h]; rfl)))

theorem State.progressOk_of_snapshot {s : State} {x : Snapshot} (h : s.sched.snapshot = some x) : s.progressOk :=
  fun _ => .inl ((inFlight_iff s).mpr (.inl (by rw [h]; rfl)))

/-! ### A step of the link -/

/-- The link after a step: its blocks fit, the last change has been handed on, and what had to move still does. -/
structure Kept (s t : State) : Prop where
  linked : Linked t
  settled : t.ring.changed = false
  moves : s.progressOk → t.progressOk

/-- What a row of another block leaves: the three blocks of the link, which alone decide what is asked of it, the queue
and the count of free values drawn. -/
structure SameLink (s t : State) : Prop where
  ring : t.ring = s.ring
  line : t.line = s.line
  sched : t.sched = s.sched
  queue : t.pending = s.pending ∧ t.freeCount = s.freeCount

theorem SameLink.refl (s : State) : SameLink s s := ⟨rfl, rfl, rfl, rfl, rfl⟩

theorem SameLink.trans {s t u : State} (h : SameLink s t) (k : SameLink t u) : SameLink s u :=
  ⟨k.ring.trans h.ring, k.line.trans h.line, k.sched.trans h.sched, k.queue.1.trans h.queue.1,
    k.queue.2.trans h.queue.2⟩

theorem SameLink.linked {s t : State} (same : SameLink s t) (h : Linked s) : Linked t where
  ring := by rw [same.ring]; exact h.ring
  line := by rw [same.ring, same.line, same.sched]; exact h.line
  sched := by rw [same.ring, same.sched]; exact h.sched

theorem SameLink.progressOk {s t : State} (same : SameLink s t) (h : s.progressOk) : t.progressOk := by
  unfold State.progressOk State.transmitting
  rw [same.ring, same.line, same.sched]
  exact h

/-- A row that leaves the link's blocks alone keeps what is asked of them. -/
theorem SameLink.kept {s t : State} (same : SameLink s t) (h : Linked s) (settled : s.ring.changed = false) : Kept s t where
  linked := same.linked h
  settled := by rw [same.ring]; exact settled
  moves := same.progressOk

/-- The comparison that ends a step hands the change on and touches nothing else of the link (R84). -/
theorem Kept.reported {s t : State} (linked : Linked t) (moves : s.progressOk → t.progressOk) : Kept s t.reportLink := by
  obtain ⟨-, -, -, -, -, -, line, sched, -, -, -, -, -, ring, -⟩ := t.reportLink_frame
  refine ⟨⟨?_, ?_, ?_⟩, t.reportLink_settles, fun s => ?_⟩
  · rw [ring]; exact { linked.ring with }
  · rw [ring, line, sched]; exact { linked.line with }
  · rw [ring, sched]; exact { linked.sched with }
  · unfold State.progressOk State.transmitting
    rw [ring, line, sched]
    exact moves s

namespace Linked

variable {s : State}

theorem quiet_of_silent (h : Linked s) (silent : s.ring.link.silent = true) : Quiet s.line s.sched := by
  refine (quiet_iff s).mp (Bool.eq_false_iff.mpr fun sending => ?_)
  have := (h.line.sending ((inFlight_iff s).mp sending)).1
  rw [silent] at this
  exact nomatch this

/-- While the response window or the lone pause runs, the part does not send (R35). -/
theorem quiet_of_timer (h : Linked s) (runs : s.ring.window.isStopped = false ∨ s.ring.pause.isStopped = false) :
    Quiet s.line s.sched := by
  refine (quiet_iff s).mp (Bool.eq_false_iff.mpr fun sending => ?_)
  obtain ⟨-, -, -, window, pause⟩ := h.line.sending ((inFlight_iff s).mp sending)
  rw [window, pause] at runs
  simp at runs

/-- While the response window or the lone pause runs, no stop request stands (R86). -/
theorem go_of_timer (h : Linked s) (runs : s.ring.window.isStopped = false ∨ s.ring.pause.isStopped = false) :
    s.ring.stopRequest = false := by
  refine Bool.eq_false_iff.mpr fun stop => ?_
  obtain ⟨-, window, pause⟩ := h.ring.stop stop
  rw [window, pause] at runs
  simp at runs

/-- In a silent state neither the window nor the pause runs. -/
theorem settled_of_silent (h : Linked s) (silent : s.ring.link.silent = true) : s.ring.Settled := by
  constructor <;> refine Bool.not_eq_false _ ▸ fun running => ?_
  · have := h.ring.window running
    cases e : s.ring.link <;> simp_all [LinkState.silent, LinkState.awaits]
  · have := h.ring.pause running
    simp_all [LinkState.silent]

/-- Where the ring timers run the receiver is on (R43). -/
theorem receiver_on (h : Linked s) (runs : s.ring.link.runsTimers = true) : s.line.receiver ≠ .stopped :=
  fun e => by rw [h.line.receiver.mp e] at runs; exact nomatch runs

/-- Another request waits, or none (R36). -/
theorem await (h : Linked s) (quiet : Quiet s.line s.sched) {w : Option Waiting}
    (fits : ∀ x, w = some x → x.fits s.ring s.sched = true) : Linked (s.await w) where
  ring := h.ring
  line := .of_quiet h.line.receiver quiet fits
  sched := h.sched

/-- An entry to HOLDING (R73, R91). -/
theorem startHolding (h : Linked s) (quiet : Quiet s.line s.sched) (runs : s.ring.link.runsTimers = true)
    (sends : s.ring.listenOnly = false) (go : s.ring.stopRequest = false) (gap : Nat) : Linked (s.startHolding gap) where
  ring := h.ring.enterHolding runs sends
  line := .of_quiet (iff_of_false (h.receiver_on runs) nofun) quiet fun w e => by
    cases e
    show (true && !s.ring.stopRequest) = true
    rw [go]
    rfl
  sched :=
    { holding := fun _ => ⟨rfl, rfl, rfl⟩
      framesMax := h.ring.budget.2
      framesNone := fun e => nomatch e
      frameLeft := fun _ => h.ring.budget.1
      stopped := h.sched.stopped
      forbidden := fun stop => by rw [show s.ring.stopRequest = true from stop] at go; exact nomatch go }

/-- OFF is reached (R87, R103). -/
theorem reachOff (h : Linked s) (quiet : Quiet s.line s.sched) : Linked s.reachOff where
  ring := h.ring.reachOff
  line := .of_idle (iff_of_true rfl rfl) quiet rfl
  sched :=
    { holding := nofun
      framesMax := Nat.zero_le 15
      framesNone := fun _ => rfl
      frameLeft := fun f => by rw [show s.reachOff.sched.snapshot = none from quiet.1] at f; exact nomatch f
      stopped := nofun
      forbidden := nofun }

/-- The link leaves for LISTEN or MEMBER, its unheard count below the limit, and a holding ends (R71, R75, R79). -/
theorem leave (h : Linked s) (quiet : Quiet s.line s.sched) (runs : s.ring.link.runsTimers = true)
    (settled : s.ring.Settled) (go : s.ring.stopRequest = false) {target : LinkState}
    (silent : target = .listen ∨ target = .member ∧ s.ring.listenOnly = false) {n : Nat} (below : n < 6) :
    Linked (s.withRing { s.ring with link := target, awaited := none, unheard := n }).endHolding where
  ring := h.ring.leave runs settled go silent below
  line := .of_idle (iff_of_false (h.receiver_on runs) (by rcases silent with rfl | ⟨rfl, -⟩ <;> exact nofun)) quiet rfl
  sched := h.sched.endHolding quiet.1 rfl
    (by rcases silent with rfl | ⟨rfl, -⟩ <;> exact nofun)

theorem leaveTo (h : Linked s) (quiet : Quiet s.line s.sched) (runs : s.ring.link.runsTimers = true)
    (settled : s.ring.Settled) (go : s.ring.stopRequest = false) {target : LinkState}
    (silent : target = .listen ∨ target = .member ∧ s.ring.listenOnly = false) : Linked (s.leaveTo target) :=
  h.leave quiet runs settled go silent (h.ring.unheard_lt runs)

/-- One more answer unheard, and at the sixth WITHDRAWN (R82, R83). -/
theorem unheardTo (h : Linked s) (quiet : Quiet s.line s.sched) (runs : s.ring.link.runsTimers = true)
    (settled : s.ring.Settled) (go : s.ring.stopRequest = false) (sends : s.ring.listenOnly = false) {target : LinkState}
    (silent : target = .listen ∨ target = .member) : Linked (s.unheardTo target) := by
  unfold State.unheardTo
  split
  · exact
      { ring := h.ring.withdraw runs sends go
        line := .of_idle (iff_of_false (h.receiver_on runs) nofun) quiet rfl
        sched := h.sched.endHolding quiet.1 rfl nofun }
  · next below =>
    exact h.leave quiet runs settled go (silent.imp_right fun e => ⟨e, sends⟩) (Nat.lt_of_not_le below)

theorem unheardTo_silent (s : State) {target : LinkState} (silent : target = .listen ∨ target = .member) :
    (s.unheardTo target).ring.link.silent = true := by
  unfold State.unheardTo
  split
  · rfl
  · rcases silent with rfl | rfl <;> rfl

/-- A frame that awaits its answer begins, and a holding ends (R70, R74, R78, R80); whether sending
stays open is left to the step that calls for it. -/
theorem beginAwaited (h : Linked s) (quiet : Quiet s.line s.sched) (runs : s.ring.link.runsTimers = true)
    (settled : s.ring.Settled) (go : s.ring.stopRequest = false) (sends : s.ring.listenOnly = false) {link : LinkState}
    {f : RingFrame} {t : State} {attempt : Attempt} {cursor : Addr} {n : Nat}
    (awaits : link = .joining ∧ f.kind = .join ∨ link = .inviting ∧ f.kind = .invite ∨ link = .passing ∧ f.kind = .token)
    (other : link = .joining ∨ f.destination ≠ s.ring.ownAddress) (countdown : n ≤ 255)
    (ring : t.ring = { s.ring with
      link := link, awaited := some f.destination, attempt := attempt, inviteCursor := cursor, inviteCountdown := n
      silence := s.ring.silence.release })
    (line : t.line = s.line.beginFrame (some f))
    (sched : t.sched = { s.sched.endHolding with sendingOpen := t.sched.sendingOpen }) : Linked t where
  ring := by
    rw [ring]
    exact h.ring.awaitAnswer runs settled go sends (awaits.imp And.left (Or.imp And.left And.left)) other countdown
  line := by
    rw [ring, line, sched]
    refine .of_begun (iff_of_false (h.receiver_on runs) ?_) quiet.1 ?_ settled ?_
    · rcases awaits with ⟨rfl, -⟩ | ⟨rfl, -⟩ | ⟨rfl, -⟩ <;> exact nofun
    · rcases awaits with ⟨rfl, -⟩ | ⟨rfl, -⟩ | ⟨rfl, -⟩ <;> rfl
    · unfold RingFrame.fits
      rcases awaits with ⟨rfl, kind⟩ | ⟨rfl, kind⟩ | ⟨rfl, kind⟩ <;> rw [kind] <;> rfl
  sched := by
    have ended := h.sched.endHolding (q := t.ring) quiet.1 (by rw [ring])
      (by rw [ring]; rcases awaits with ⟨rfl, -⟩ | ⟨rfl, -⟩ | ⟨rfl, -⟩ <;> exact nofun)
    rw [sched]
    exact { ended with holding := nofun }

/-- A pass begins (R74, R78, R80). -/
theorem passToken (h : Linked s) (quiet : Quiet s.line s.sched) (runs : s.ring.link.runsTimers = true)
    (settled : s.ring.Settled) (go : s.ring.stopRequest = false) (sends : s.ring.listenOnly = false) {d : Addr}
    (other : d ≠ s.ring.ownAddress) (attempt : Attempt) : Linked (s.passToken d attempt) :=
  h.beginAwaited quiet runs settled go sends (f := ⟨.token, d⟩) (.inr (.inr ⟨rfl, rfl⟩)) (.inr other) h.ring.countdown
    rfl rfl rfl

/-- A JOIN begins (R70). -/
theorem beginJoin (h : Linked s) (quiet : Quiet s.line s.sched) (runs : s.ring.link.runsTimers = true)
    (settled : s.ring.Settled) (go : s.ring.stopRequest = false) (sends : s.ring.listenOnly = false)
    (idle : s.sched.holding = false) (inviter : Addr) : Linked (s.beginJoin inviter) :=
  h.beginAwaited quiet runs settled go sends (f := ⟨.join, inviter⟩) (.inl ⟨rfl, rfl⟩) (.inl rfl) h.ring.countdown
    rfl rfl (by
      show s.sched = _
      unfold Scheduler.endHolding
      rw [← idle, ← h.sched.framesNone idle]; rfl)

end Linked
end Sys2Proof.Machine
end

section
/-!
PROOFS. The rules of the link, row by row: an end of sending, a stop, an arrival, an expiry and the end of a frame each
leave the three blocks fitting, with nothing waited for in vain.
-/
namespace Sys2Proof.Machine

/-- After a step the three blocks fit, and, given `P` of the state before it, nothing is waited for in vain. -/
structure Sound (P : Prop) (t : State) : Prop where
  linked : Linked t
  moves : P → t.progressOk

theorem Sound.reported {s t : State} (h : Sound s.progressOk t) : Kept s t.reportLink := .reported h.linked h.moves

/-- What a holding in progress with nothing on the line says (R91, R97). -/
structure Sends (s : State) : Prop where
  quiet : Quiet s.line s.sched
  holding : s.sched.holding = true
  go : s.ring.stopRequest = false

/-- A frame that may go out without a stop request may go out under one (R86). -/
theorem RingFrame.fits_stop {f : RingFrame} {link : LinkState} {stop holding : Bool}
    (h : f.fits link stop holding = true) : f.fits link true holding = true := by
  unfold RingFrame.fits at h ⊢
  cases kind : f.kind <;> rw [kind] at h
  case token => cases stop <;> simp_all
  all_goals exact h

theorem Ring.successor_of_not_alone {r : Ring} (h : ¬ r.alone = true) : r.successor.isSome = true := by
  rw [Ring.alone_iff_successor_none] at h
  exact Option.isSome_iff_ne_none.mpr h

namespace Linked

variable {s : State} {P : Prop}

/-! ### The states an operation starts from -/

theorem sends_link (h : Linked s) (m : Sends s) : s.ring.link = .holding := (h.sched.holding m.holding).1

/-- In HOLDING no window runs, as no answer is awaited (R39). -/
theorem window_of_holding (h : Linked s) (link : s.ring.link = .holding) : s.ring.window.isStopped = true :=
  Bool.not_eq_false _ ▸ fun running => by
    have := h.ring.window running
    rw [link] at this
    exact nomatch this

theorem pause_stopped (h : Linked s) (link : s.ring.link ≠ .holding) : s.ring.pause.isStopped = true :=
  Bool.not_eq_false _ ▸ fun running => link (h.ring.pause running)

theorem window_stopped (h : Linked s) (link : s.ring.link.awaits = false) : s.ring.window.isStopped = true :=
  Bool.not_eq_false _ ▸ fun running => by
    have := h.ring.window running
    rw [link] at this
    exact nomatch this

/-! ### The end of sending (R74, R76, R77, R97) -/

theorem inviteTarget_ne_own (r : Ring) : r.inviteTarget ≠ r.ownAddress := by
  unfold Ring.inviteTarget
  split
  · next inside => exact (r.inGap_iff _).mp inside |>.1
  · exact next_ne_own _

theorem sendingEnded (h : Linked s) (m : Sends s) : Sound P s.sendingEnded := by
  have link := h.sends_link m
  have runs : s.ring.link.runsTimers = true := by rw [link]; rfl
  have settled : s.ring.Settled := ⟨h.window_of_holding link, (h.sched.holding m.holding).2.1⟩
  have sends : s.ring.listenOnly = false := h.ring.listenOnly_false (by rw [link]; exact ⟨nofun, nofun⟩)
  have reload : s.ring.reloadCountdown ≤ 255 := by
    unfold Ring.reloadCountdown
    split
    exacts [h.ring.countdown, h.ring.interval]
  unfold State.sendingEnded
  dsimp only
  split
  · exact ⟨h.beginAwaited m.quiet runs settled m.go sends (f := ⟨.invite, s.ring.inviteTarget⟩) (.inr (.inl ⟨rfl, rfl⟩))
      (.inr (inviteTarget_ne_own s.ring)) reload rfl rfl rfl, fun _ => State.progressOk_of_frame rfl⟩
  · next notDue =>
    split
    · next d next =>
      have other : d ≠ s.ring.ownAddress := successorOf_ne_own next
      refine ⟨?_, fun _ => State.progressOk_of_frame rfl⟩
      split
      · exact h.beginAwaited m.quiet runs settled m.go sends (f := ⟨.token, d⟩) (.inr (.inr ⟨rfl, rfl⟩)) (.inr other)
          reload rfl rfl rfl
      · exact h.beginAwaited m.quiet runs settled m.go sends (f := ⟨.token, d⟩) (.inr (.inr ⟨rfl, rfl⟩)) (.inr other)
          h.ring.countdown rfl rfl rfl
    · next alone =>
      refine absurd ?_ notDue
      have gap : s.ring.inGap s.ring.gapFirst = true := by
        rw [Ring.inGap_iff]
        exact ⟨next_ne_own _, fun t e => by rw [alone] at e; exact nomatch e⟩
      simp [Ring.inviteDue, Ring.alone, alone, Ring.gapEmpty, gap]

/-! ### A stop (R86, R87) -/

theorem reachOff_sound (h : Linked s) (quiet : Quiet s.line s.sched) : Sound P s.reachOff :=
  ⟨h.reachOff quiet, fun _ => State.progressOk_of_silent rfl⟩

/-- A stop request stands while a frame ends or a TOKEN waits. -/
theorem standStop (h : Linked s) (link : s.ring.link.silent = false) {w : Option Waiting} {forbids : Bool}
    (forbid : s.ring.link = .holding → forbids = true)
    (waits : InFlight s.line s.sched ∧ w = s.line.waiting ∨
      Quiet s.line s.sched ∧ ∃ x, w = some x ∧ x.kind = .token ∧ s.ring.successor.isSome = true ∧
        (s.ring.link = .inviting ∨ s.ring.link = .holding))
    {t : State} (ring : t.ring = s.standStop.ring) (line : t.line = { s.line with waiting := w })
    (sched : t.sched = { s.sched with stopRequest := forbids || s.sched.stopRequest }) : Sound P t := by
  have fits : RingFits t.ring := by rw [ring]; exact h.ring.standStop link
  have scheduler : SchedFits t.ring t.sched := by
    rw [ring, sched]
    exact { h.sched with
      holding := fun f => ⟨(h.sched.holding f).1, rfl, (h.sched.holding f).2.2⟩
      stopped := fun _ => rfl
      forbidden := fun _ on => by show (forbids || _) = true; rw [forbid on]; rfl }
  rcases waits with ⟨sending, rfl⟩ | ⟨quiet, x, rfl, kind, node, on⟩
  · refine ⟨⟨fits, ?_, scheduler⟩, fun _ _ => .inl ((inFlight_iff t).mpr ?_)⟩
    · rw [ring, line, sched]
      obtain ⟨-, waiting, receiver, -, -⟩ := h.line.sending sending
      exact
        { receiver := h.line.receiver
          sending := fun _ => ⟨link, waiting, receiver, rfl, rfl⟩
          snapshot := h.line.snapshot
          frame := fun f e => RingFrame.fits_stop (h.line.frame f e)
          request := fun w e => by rw [show s.line.waiting = some w from e] at waiting; exact nomatch waiting }
    · rw [line, sched]; exact sending
  · refine ⟨⟨fits, ?_, scheduler⟩, fun _ => State.progressOk_of_waiting (by rw [line])⟩
    rw [ring, line, sched]
    refine .of_quiet h.line.receiver quiet fun y e => ?_
    cases e
    unfold Waiting.fits
    rw [kind]
    show (s.ring.successor.isSome && true &&
      (decide (s.ring.link = .inviting) || (true && decide (s.ring.link = .holding)))) = true
    rw [node]
    rcases on with on | on <;> rw [on] <;> rfl

theorem stopLink (h : Linked s) (moves : P → s.progressOk) : Sound P s.stopLink := by
  have quiet : s.ring.link.silent = true → Quiet s.line s.sched := h.quiet_of_silent
  unfold State.stopLink
  split
  · exact ⟨h, moves⟩
  · split
    case h_1 => exact ⟨h, moves⟩
    case h_2 link | h_3 link | h_4 link => exact h.reachOff_sound (quiet (by rw [link]; rfl))
    case h_5 link | h_6 link =>
      split
      · next sending =>
        exact h.standStop (by rw [link]; rfl) (fun e => by rw [link] at e; exact nomatch e)
          (.inl ⟨(inFlight_iff s).mp sending, rfl⟩) (forbids := false) rfl rfl rfl
      · next idle => exact h.reachOff_sound ((quiet_iff s).mp (Bool.eq_false_iff.mpr idle))
    case h_7 link =>
      split
      · next sending =>
        exact h.standStop (by rw [link]; rfl) (fun _ => rfl) (.inl ⟨(inFlight_iff s).mp sending, rfl⟩)
          (forbids := true) rfl rfl rfl
      · next idle =>
        have quiet := (quiet_iff s).mp (Bool.eq_false_iff.mpr idle)
        split
        · exact h.reachOff_sound quiet
        · next others =>
          refine h.standStop (by rw [link]; rfl) (fun _ => rfl)
            (.inr ⟨quiet, _, rfl, ?_, Ring.successor_of_not_alone others, .inr link⟩) (forbids := true) rfl rfl rfl
          unfold Waiting.toToken
          split <;> rfl
    case h_8 link =>
      split
      · next sending =>
        exact h.standStop (by rw [link]; rfl) (fun e => by rw [link] at e; exact nomatch e)
          (.inl ⟨(inFlight_iff s).mp sending, rfl⟩) (forbids := false) rfl rfl rfl
      · next idle =>
        have quiet := (quiet_iff s).mp (Bool.eq_false_iff.mpr idle)
        split
        · exact h.reachOff_sound quiet
        · next others =>
          exact h.standStop (by rw [link]; rfl) (fun e => by rw [link] at e; exact nomatch e)
            (.inr ⟨quiet, _, rfl, rfl, Ring.successor_of_not_alone others, .inl link⟩) (forbids := false) rfl rfl rfl

/-- After the last frame a stop finishes (R86). -/
theorem afterStoppedFrame (h : Linked s) (quiet : Quiet s.line s.sched) (stop : s.ring.stopRequest = true)
    (link : s.ring.link = .holding ∨ s.ring.link = .inviting) : Sound P s.afterStoppedFrame := by
  unfold State.afterStoppedFrame
  split
  · exact h.reachOff_sound quiet
  · next others =>
    refine ⟨h.await quiet fun x e => ?_, fun _ => State.progressOk_of_waiting rfl⟩
    cases e
    have node : s.ring.successor.isSome = true := Ring.successor_of_not_alone others
    show (s.ring.successor.isSome && s.ring.window.isStopped &&
      (decide (s.ring.link = .inviting) || (s.ring.stopRequest && decide (s.ring.link = .holding)))) = true
    rw [node, (h.ring.stop stop).2.1, stop]
    rcases link with on | on <;> rw [on] <;> rfl

/-! ### LINK_START (R43, R85, R139, R140) -/

theorem startLink (h : Linked s) (down : s.ring.link = .off ∨ s.ring.link = .withdrawn) {o : LinkOptions}
    (wf : (Command.linkStart o).wf = true) : Kept s (s.startLink o) := by
  have silent : s.ring.link.silent = true := by rcases down with e | e <;> rw [e] <;> rfl
  have quiet := h.quiet_of_silent silent
  have idle : s.sched.holding = false := Bool.eq_false_iff.mpr fun f => by
    have := (h.sched.holding f).1
    rw [this] at silent
    exact nomatch silent
  have unstopped := h.sched.stop_false (h.ring.stop_false silent)
  unfold State.startLink
  refine Sound.reported ?_
  refine ⟨⟨.start s.ring wf, .of_idle (iff_of_false nofun nofun) quiet rfl, ?_⟩, fun _ => State.progressOk_of_silent rfl⟩
  exact
    { holding := fun f => by rw [show s.sched.holding = true from f] at idle; exact nomatch idle
      framesMax := h.sched.framesMax
      framesNone := h.sched.framesNone
      frameLeft := h.sched.frameLeft
      stopped := fun f => by
        rw [show s.sched.stopRequest = true from f] at unstopped
        exact nomatch unstopped
      forbidden := nofun }

/-! ### Arrivals (R36, R67 to R72, R75, R78, R79, R81, R86) -/

/-- A part that hears hunts no more, and sends nothing (R32, R35). -/
theorem quiet_of_hears (hears : s.hears = true) : Quiet s.line s.sched :=
  (quiet_iff s).mp (by
    simp only [State.hears, Bool.and_eq_true, Bool.not_eq_true'] at hears
    exact hears.2)

theorem on_of_hears (h : Linked s) (hears : s.hears = true) : s.ring.link ≠ .off := fun off => by
  simp only [State.hears, Bool.and_eq_true, decide_eq_true_eq] at hears
  rw [h.line.receiver.mpr off] at hears
  exact nomatch hears.1

/-- A mark more leaves a node to go to where there was one (R65, R66). -/
theorem successor_markSource (r : Ring) (a : Arrival) (h : r.successor.isSome = true) :
    (r.markSource a).successor.isSome = true := by
  rw [Ring.markSource_eq]
  unfold Ring.successor at h ⊢
  rw [successorOf_isSome] at h ⊢
  obtain ⟨b, other, mark⟩ := h
  refine ⟨b, other, ?_⟩
  dsimp only
  split
  · rw [marked_setMark, mark]; rfl
  · exact mark

end Linked

/-- The ring controller after an arrival's first effects (R67). -/
abbrev Ring.noted (r : Ring) (a : Arrival) : Ring :=
  { (r.markSource a).restartSilence with window := .stopped, pause := .stopped }

theorem Ring.noted_eq (r : Ring) (a : Arrival) : r.noted a = { r with
    liveMap := (r.markSource a).liveMap, clash := (r.markSource a).clash, silence := (r.noted a).silence
    window := .stopped, pause := .stopped } := by
  unfold Ring.noted
  rw [Ring.markSource_eq, Ring.restartSilence_eq]

theorem Ring.noted_successor (r : Ring) (a : Arrival) : (r.noted a).successor = (r.markSource a).successor := by
  rw [Ring.noted_eq]
  unfold Ring.successor
  rw [Ring.markSource_eq]

namespace Linked

variable {s : State} {P : Prop}

/-- A request that stands goes on standing after an arrival's first effects (R36, R67). -/
theorem fits_noted {w : Waiting} {c : Scheduler} (h : w.fits s.ring c = true) (a : Arrival) (divider : Nat) :
    (w.remeasure divider).fits (s.ring.noted a) c = true := by
  have kind : (w.remeasure divider).kind = w.kind := by unfold Waiting.remeasure; split <;> rfl
  have node := successor_markSource s.ring a
  rw [← Ring.noted_successor] at node
  unfold Waiting.fits at h ⊢
  rw [kind]
  rw [Ring.noted_eq] at node ⊢
  cases k : w.kind <;> rw [k] at h
  case token =>
    simp only [Bool.and_eq_true] at h
    obtain ⟨⟨next, -⟩, on⟩ := h
    simp only [Bool.and_eq_true]
    exact ⟨⟨node next, rfl⟩, on⟩
  all_goals exact h

theorem noteArrival (h : Linked s) (hears : s.hears = true) (a : Arrival) : Linked (s.noteArrival a) where
  ring := (h.ring.markSource a).restartSilence.settle
  line := by
    have off := h.on_of_hears hears
    have quiet := quiet_of_hears hears
    refine .of_quiet (iff_of_false nofun ?_) quiet fun w e => ?_
    · show (s.ring.noted a).link ≠ .off
      rw [Ring.noted_eq]
      exact off
    · obtain ⟨w, waits, rfl⟩ := Option.map_eq_some_iff.mp e
      exact fits_noted (h.line.request w waits) a _
  sched := by
    show SchedFits (s.ring.noted a) s.sched
    rw [Ring.noted_eq]
    exact { h.sched with holding := fun f => ⟨(h.sched.holding f).1, rfl, (h.sched.holding f).2.2⟩ }

/-- What an arrival's first effects leave: nothing of the part on the line, the window and the pause settled. -/
structure Heard (s : State) : Prop where
  linked : Linked s
  quiet : Quiet s.line s.sched
  settled : s.ring.Settled
  on : s.ring.link ≠ .off

end Linked

namespace Linked.Heard

variable {s : State} {P : Prop}

theorem go_of_silent (h : Heard s) (silent : s.ring.link.silent = true) : s.ring.stopRequest = false :=
  h.linked.ring.stop_false silent

/-- An answer to the part starts a holding (R68, R71, R72, R75, R78, R79). -/
theorem startHolding (h : Heard s) (runs : s.ring.link.runsTimers = true) (sends : s.ring.listenOnly = false)
    (go : s.ring.stopRequest = false) (gap : Nat) : Sound P (s.startHolding gap) :=
  ⟨h.linked.startHolding h.quiet runs sends go gap, fun _ => State.progressOk_of_waiting rfl⟩

theorem leaveTo (h : Heard s) (runs : s.ring.link.runsTimers = true) (go : s.ring.stopRequest = false)
    {target : LinkState} (silent : target = .listen ∨ target = .member ∧ s.ring.listenOnly = false) :
    Sound P (s.leaveTo target) :=
  ⟨h.linked.leaveTo h.quiet runs h.settled go silent,
    fun _ => State.progressOk_of_silent (by rcases silent with rfl | ⟨rfl, -⟩ <;> rfl)⟩

theorem unheardTo (h : Heard s) (runs : s.ring.link.runsTimers = true) (sends : s.ring.listenOnly = false)
    (go : s.ring.stopRequest = false) {target : LinkState} (silent : target = .listen ∨ target = .member) :
    Sound P (s.unheardTo target) :=
  ⟨h.linked.unheardTo h.quiet runs h.settled go sends silent, fun _ => State.progressOk_of_silent (unheardTo_silent s silent)⟩

/-- The unheard count set to 0 changes nothing else (R71, R79). -/
theorem heard (h : Heard s) (runs : s.ring.link.runsTimers = true) : Heard s.heard where
  linked :=
    { ring := h.linked.ring.heard runs
      line := .of_quiet h.linked.line.receiver h.quiet fun w e => h.linked.line.request w e
      sched := { h.linked.sched with } }
  quiet := h.quiet
  settled := h.settled
  on := h.on

theorem takeIdle (h : Heard s) (link : s.ring.link = .listen ∨ s.ring.link = .member) (a : Arrival) :
    Sound P (s.takeIdle a) := by
  have silent : s.ring.link.silent = true := by rcases link with e | e <;> rw [e] <;> rfl
  have runs : s.ring.link.runsTimers = true := by rcases link with e | e <;> rw [e] <;> rfl
  unfold State.takeIdle
  split
  · exact ⟨h.linked, fun _ => State.progressOk_of_silent silent⟩
  · next sends =>
    have sends := Bool.eq_false_iff.mpr sends
    split
    · exact h.startHolding runs sends (h.go_of_silent silent) _
    · split
      · refine ⟨h.linked.await h.quiet fun x e => ?_, fun _ => State.progressOk_of_waiting rfl⟩
        cases e
        show (!s.ring.listenOnly && (decide (s.ring.link = .listen) || decide (s.ring.link = .member))) = true
        rw [sends]
        rcases link with e | e <;> rw [e] <;> rfl
      · exact ⟨h.linked.await h.quiet (fun x e => nomatch e), fun _ => State.progressOk_of_silent silent⟩

theorem takeJoining (h : Heard s) (link : s.ring.link = .joining) (go : s.ring.stopRequest = false) (a : Arrival) :
    Sound P (s.takeJoining a) := by
  have runs : s.ring.link.runsTimers = true := by rw [link]; rfl
  have sends := h.linked.ring.listenOnly_false (by rw [link]; exact ⟨nofun, nofun⟩)
  unfold State.takeJoining
  split
  · exact h.leaveTo runs go (.inl rfl)
  · split
    · exact (h.heard runs).startHolding runs sends go _
    · exact h.unheardTo runs sends go (.inl rfl)

theorem takeHolding (h : Heard s) (link : s.ring.link = .holding) (go : s.ring.stopRequest = false) (a : Arrival) :
    Sound P (s.takeHolding a) := by
  have runs : s.ring.link.runsTimers = true := by rw [link]; rfl
  have sends := h.linked.ring.listenOnly_false (by rw [link]; exact ⟨nofun, nofun⟩)
  unfold State.takeHolding
  split
  · exact h.leaveTo runs go (.inr ⟨rfl, sends⟩)
  · split
    · exact h.startHolding runs sends go _
    · exact h.unheardTo runs sends go (.inr rfl)

theorem takePassing (h : Heard s) (link : s.ring.link = .passing) (go : s.ring.stopRequest = false) (a : Arrival) :
    Sound P (s.takePassing a) := by
  have runs : s.ring.link.runsTimers = true := by rw [link]; rfl
  have sends := h.linked.ring.listenOnly_false (by rw [link]; exact ⟨nofun, nofun⟩)
  unfold State.takePassing
  split
  · exact h.leaveTo runs go (.inr ⟨rfl, sends⟩)
  · split
    · split
      · exact (h.heard runs).startHolding runs sends go _
      · exact (h.heard runs).leaveTo runs go (.inr ⟨rfl, sends⟩)
    · split
      · exact h.startHolding runs sends go _
      · exact h.unheardTo runs sends go (.inr rfl)

end Linked.Heard

namespace Linked

variable {s : State} {P : Prop}

/-- In INVITING no holding is in progress: a TOKEN is all that can wait, and it waits for a node (R78). -/
theorem token_of_inviting (h : Linked s) (link : s.ring.link = .inviting) {w : Waiting} (waits : s.line.waiting = some w) :
    w.kind = .token ∧ s.ring.successor.isSome = true ∧ s.ring.window.isStopped = true := by
  have idle : s.sched.holding = false := Bool.eq_false_iff.mpr fun f => by
    have := (h.sched.holding f).1
    rw [link] at this
    exact nomatch this
  have fits := h.line.request w waits
  unfold Waiting.fits at fits
  cases k : w.kind <;> simp [k, idle, link] at fits
  exact ⟨rfl, fits⟩

/-- The lone pause begins, after an INVITE no one answered (R41, R78, R81). -/
theorem beginPause (h : Linked s) (quiet : Quiet s.line s.sched) (link : s.ring.link = .inviting)
    (settled : s.ring.Settled) (go : s.ring.stopRequest = false) (alone : s.ring.successor = none)
    {cursor : Addr} : Sound P (s.withRing { s.ring with inviteCursor := cursor }).beginPause := by
  have sends := h.ring.listenOnly_false (by rw [link]; exact ⟨nofun, nofun⟩)
  have idle : s.sched.holding = false := Bool.eq_false_iff.mpr fun f => by
    have := (h.sched.holding f).1
    rw [link] at this
    exact nomatch this
  have waiting : s.line.waiting = none := by
    cases e : s.line.waiting with
    | none => rfl
    | some w =>
      have := (h.token_of_inviting link e).2.1
      rw [alone] at this
      exact nomatch this
  have fits := h.ring.beginPause (by rw [link]; rfl) settled go sends
  have runs : s.ring.link.runsTimers = true := by rw [link]; rfl
  refine ⟨⟨{ fits with }, .of_idle (iff_of_false (h.receiver_on runs) nofun) quiet waiting, ?_⟩,
    fun _ _ => .inr (.inr (.inr rfl))⟩
  exact { h.sched with
    holding := fun f => by rw [show s.sched.holding = true from f] at idle; exact nomatch idle
    forbidden := fun stop => by rw [show s.ring.stopRequest = true from stop] at go; exact nomatch go }

/-- The TOKEN after an INVITE waits for its start time (R78). -/
theorem awaitToken (h : Linked s) (quiet : Quiet s.line s.sched) (link : s.ring.link = .inviting)
    (settled : s.ring.Settled) (node : s.ring.successor.isSome = true) (gap : Nat) :
    Sound P (s.await (some (Waiting.fresh .token gap))) := by
  refine ⟨h.await quiet fun x e => ?_, fun _ => State.progressOk_of_waiting rfl⟩
  cases e
  show (s.ring.successor.isSome && s.ring.window.isStopped &&
    (decide (s.ring.link = .inviting) || (s.ring.stopRequest && decide (s.ring.link = .holding)))) = true
  rw [node, settled.1, link]; rfl

/-- The rule of INVITING; `marks`: a source that answers is marked by then. -/
theorem Heard.takeInviting (h : Heard s) (link : s.ring.link = .inviting) (go : s.ring.stopRequest = false) {a : Arrival}
    (marks : ∀ x, a.source = some x → marked s.ring.liveMap x = true) {inWindow : Bool}
    (moves : inWindow = false → P → s.progressOk) : Sound P (s.takeInviting a inWindow) := by
  have runs : s.ring.link.runsTimers = true := by rw [link]; rfl
  have sends := h.linked.ring.listenOnly_false (by rw [link]; exact ⟨nofun, nofun⟩)
  unfold State.takeInviting
  split
  · split
    · dsimp only
      split
      · next alone => exact h.linked.beginPause h.quiet link h.settled go (s.ring.alone_iff_successor_none.mp alone)
      · next others =>
        have advanced : Linked (s.withRing s.ring.unanswered) :=
          { ring := { h.linked.ring with }
            line := .of_quiet h.linked.line.receiver h.quiet fun w e => h.linked.line.request w e
            sched := { h.linked.sched with } }
        exact advanced.awaitToken h.quiet link h.settled (Ring.successor_of_not_alone others) _
    · next outside => exact ⟨h.linked, moves (Bool.eq_false_iff.mpr outside)⟩
  · split
    · next answers =>
      refine h.linked.awaitToken h.quiet link h.settled ?_ _
      obtain ⟨-, answers⟩ := Bool.and_eq_true_iff.mp answers
      cases a with
      | join x d =>
        simp only [Ring.joinAnswers, Bool.and_eq_true, decide_eq_true_eq] at answers
        refine successorOf_isSome.mpr ⟨x, fun own => ?_, marks x rfl⟩
        exact h.linked.ring.notSelf (.inr link) (by rw [← answers.1, own])
      | content _ | token _ _ | invite _ _ | foreign | garbled => exact nomatch answers
    · split
      · exact h.startHolding runs sends go _
      · exact h.unheardTo runs sends go (.inr rfl)

theorem Heard.takeByLink (h : Heard s) {a : Arrival} (marks : ∀ x, a.source = some x → marked s.ring.liveMap x = true)
    {inWindow : Bool} (moves : s.ring.link = .inviting → inWindow = false → P → s.progressOk) :
    Sound P (s.takeByLink a inWindow) := by
  unfold State.takeByLink
  split
  · exact h.linked.reachOff_sound h.quiet
  · next go =>
    have go := Bool.eq_false_iff.mpr go
    split
    case h_1 link => exact absurd link h.on
    case h_2 link => exact h.takeIdle (.inl link) a
    case h_3 link => exact h.takeJoining link go a
    case h_4 link => exact h.takeIdle (.inr link) a
    case h_5 link => exact h.takeHolding link go a
    case h_6 link => exact h.takeInviting link go marks (moves link)
    case h_7 link => exact h.takePassing link go a
    case h_8 link => exact ⟨h.linked, fun _ => State.progressOk_of_silent (by rw [link]; rfl)⟩

theorem noteArrival_heard (h : Linked s) (hears : s.hears = true) (a : Arrival) : Heard (s.noteArrival a) where
  linked := h.noteArrival hears a
  quiet := quiet_of_hears (s := s) hears
  settled := ⟨rfl, rfl⟩
  on := by
    rw [(s.noteArrival_keeps a).1]
    exact h.on_of_hears hears

/-- In INVITING, outside the window, what is waited for is the TOKEN's start time, and it stays (R36, R78). -/
theorem noteArrival_waiting (h : Linked s) (hears : s.hears = true) (link : s.ring.link = .inviting)
    (outside : s.ring.window.isStopped = true) (moves : s.progressOk) (a : Arrival) : (s.noteArrival a).progressOk := by
  have quiet := (quiet_iff s).mpr (quiet_of_hears hears)
  have unpaused := h.pause_stopped (by rw [link]; exact nofun)
  have waits : s.line.waiting.isSome = true := by
    have := moves (by rw [link]; rfl)
    rw [quiet, outside, unpaused] at this
    simpa using this
  obtain ⟨w, e⟩ := Option.isSome_iff_exists.mp waits
  refine State.progressOk_of_waiting (w := w.remeasure s.line.divider) ?_
  rw [(s.noteArrival_keeps a).2.2.2.2.2.1]
  show s.line.waiting.map _ = _
  rw [e]; rfl

theorem arrive (h : Linked s) (settled : s.ring.changed = false) (a : Arrival) : Kept s (s.arrive a) := by
  unfold State.arrive
  split
  · next hears =>
    have heard := h.noteArrival_heard hears a
    have noted : (s.noteArrival a).ring = s.ring.noted a := rfl
    refine Sound.reported (heard.takeByLink (fun x source => ?_) fun link settles moves => ?_)
    · rw [noted, Ring.noted_eq, Ring.markSource_eq, source]
      show marked (setMark s.ring.liveMap x) x = true
      rw [marked_setMark, decide_eq_true rfl, Bool.or_true]
    · rw [(s.noteArrival_keeps a).1] at link
      exact h.noteArrival_waiting hears link (by simpa using settles) moves a
  · exact (SameLink.refl s).kept h settled

end Linked
end Sys2Proof.Machine
end

section
/-!
PROOFS. The rows of the link: each keeps the three blocks fitting and every change handed on; the rows of the other
blocks leave the link as it was, but for the read of the clash flag.
-/
namespace Sys2Proof.Machine

/-- What a waiting request needs of the ring controller. -/
theorem Waiting.fits_congr (w : Waiting) {r q : Ring} {c : Scheduler} (link : q.link = r.link)
    (stop : q.stopRequest = r.stopRequest) (window : q.window.isStopped = r.window.isStopped)
    (node : q.listenOnly = r.listenOnly ∧ q.successor = r.successor) : w.fits q c = w.fits r c := by
  unfold Waiting.fits
  rw [link, stop, window, node.1, node.2]

namespace Linked

variable {s : State} {P : Prop}

/-- Another state of the same link, its ring controller changed in what no invariant of it reads. -/
theorem withRing (h : Linked s) {r : Ring} (ring : RingFits r) (link : r.link = s.ring.link)
    (stop : r.stopRequest = s.ring.stopRequest)
    (timers : r.window.isStopped = s.ring.window.isStopped ∧ r.pause.isStopped = s.ring.pause.isStopped)
    (node : r.listenOnly = s.ring.listenOnly ∧ r.successor = s.ring.successor) : Linked (s.withRing r) where
  ring := ring
  line :=
    { receiver := by show _ ↔ r.link = _; rw [link]; exact h.line.receiver
      sending := fun f => by
        show r.link.silent = _ ∧ _ ∧ _ ∧ r.window.isStopped = _ ∧ r.pause.isStopped = _
        rw [link, timers.1, timers.2]
        exact h.line.sending f
      snapshot := h.line.snapshot
      frame := fun f e => by
        show f.fits r.link r.stopRequest _ = true
        rw [link, stop]
        exact h.line.frame f e
      request := fun w e => (w.fits_congr link stop timers.1 node).trans (h.line.request w e) }
  sched := by
    show SchedFits r s.sched
    exact
      { holding := fun f => by rw [link, timers.2]; exact h.sched.holding f
        framesMax := h.sched.framesMax
        framesNone := h.sched.framesNone
        frameLeft := h.sched.frameLeft
        stopped := fun f => by rw [stop]; exact h.sched.stopped f
        forbidden := by rw [link, stop]; exact h.sched.forbidden }

/-- The line unit changed in what no invariant reads. -/
theorem withLine (h : Linked s) {l : LineUnit} (receiver : l.receiver = s.line.receiver)
    (frame : l.ringFrame = s.line.ringFrame) (waiting : l.waiting.map (·.kind) = s.line.waiting.map (·.kind)) :
    Linked (s.withLine l) where
  ring := h.ring
  sched := h.sched
  line :=
    { receiver := by show l.receiver = _ ↔ _; rw [receiver]; exact h.line.receiver
      sending := fun f => by
        obtain ⟨silent, none, not, settled⟩ := h.line.sending (by
          show _ ∨ s.line.ringFrame.isSome = true
          rw [← frame]; exact f)
        rw [none, Option.map_none, Option.map_eq_none_iff] at waiting
        exact ⟨silent, waiting, by rw [← receiver] at not; exact not, settled⟩
      snapshot := fun f => by
        show l.ringFrame = none ∧ _
        rw [frame]
        exact h.line.snapshot f
      frame := fun f e => h.line.frame f (frame.symm.trans e)
      request := fun w e => by
        rw [show l.waiting = some w from e, Option.map_some, eq_comm, Option.map_eq_some_iff] at waiting
        obtain ⟨v, waits, kind⟩ := waiting
        have fits := h.line.request v waits
        unfold Waiting.fits at fits ⊢
        rw [← kind]
        exact fits }

/-! ### Expiries (R39 to R41, R69, R71, R78, R80) -/

/-- A claim: a holding entered with a CLAIM begun at once (R69). -/
theorem claim (h : Linked s) (link : s.ring.link = .listen ∨ s.ring.link = .member) (sends : s.ring.listenOnly = false) :
    Sound P s.claim := by
  have silent : s.ring.link.silent = true := by rcases link with e | e <;> rw [e] <;> rfl
  have runs : s.ring.link.runsTimers = true := by rcases link with e | e <;> rw [e] <;> rfl
  have go := h.ring.stop_false silent
  have quiet := h.quiet_of_silent silent
  have entered := h.startHolding quiet runs sends go 0
  refine ⟨⟨entered.ring.releaseSilence, ?_, { entered.sched with }⟩, fun _ => State.progressOk_of_frame rfl⟩
  exact .of_begun (iff_of_false (h.receiver_on runs) nofun) quiet.1 rfl ⟨rfl, rfl⟩ rfl

theorem silenceExpired (h : Linked s) (moves : P → s.progressOk) : Sound P s.silenceExpired := by
  unfold State.silenceExpired
  split
  case h_1 link =>
    split
    · exact ⟨h, moves⟩
    · next sends => exact h.claim (.inl link) (Bool.eq_false_iff.mpr sends)
  case h_2 link => exact h.claim (.inr link) (h.ring.listenOnly_false (by rw [link]; exact ⟨nofun, nofun⟩))
  all_goals exact ⟨h, moves⟩

/-- The ring timers set anew, none of them started or stopped. -/
theorem withTimers (h : Linked s) {window silence pause : Timer} (hw : window.isStopped = s.ring.window.isStopped)
    (hs : silence.isStopped = s.ring.silence.isStopped) (hp : pause.isStopped = s.ring.pause.isStopped) :
    Linked (s.withRing { s.ring with window := window, silence := silence, pause := pause }) :=
  h.withRing (h.ring.timers hw hs hp) rfl rfl ⟨hw, hp⟩ ⟨rfl, rfl⟩

theorem execSilenceTimeout_kept (h : Linked s) (settled : s.ring.changed = false) :
    Ensures (Kept s) (execSilenceTimeout s) := by
  rw [execSilenceTimeout, ensures_next]
  split
  · next due =>
    obtain ⟨c, running, -⟩ := (Timer.expired_iff _ _).mp due
    have restarted : Linked s.restartSilence := h.withTimers rfl (by rw [running]; rfl) rfl
    exact Sound.reported (restarted.silenceExpired fun moves : s.progressOk => moves)
  · exact (SameLink.refl s).kept h settled

/-- The response window has run out: it is stopped, and nothing of the part is on the line. -/
structure Expired (s : State) : Prop where
  linked : Linked s
  quiet : Quiet s.line s.sched
  settled : s.ring.Settled
  go : s.ring.stopRequest = false
  awaits : s.ring.link.awaits = true

/-- In PASSING nothing waits for a start time (R79). -/
theorem waiting_none_of_passing (h : Linked s) (link : s.ring.link = .passing) : s.line.waiting = none := by
  have idle : s.sched.holding = false := Bool.eq_false_iff.mpr fun f => by
    have := (h.sched.holding f).1
    rw [link] at this
    exact nomatch this
  cases e : s.line.waiting with
  | none => rfl
  | some w =>
    have fits := h.line.request w e
    unfold Waiting.fits at fits
    cases k : w.kind <;> simp [k, idle, link] at fits

/-- The second attempt of a pass has failed (R80). -/
theorem passFailed (h : Linked s) (quiet : Quiet s.line s.sched) (settled : s.ring.Settled)
    (go : s.ring.stopRequest = false) (link : s.ring.link = .passing) : Sound P s.passFailed := by
  obtain ⟨m, fields⟩ : ∃ m, s.ring.clearAwaited = { s.ring with liveMap := m } := by
    unfold Ring.clearAwaited; split <;> exact ⟨_, rfl⟩
  have sends := h.ring.listenOnly_false (by rw [link]; exact ⟨nofun, nofun⟩)
  have runs : s.ring.link.runsTimers = true := by rw [link]; rfl
  have ring := h.ring.clearAwaited link
  unfold State.passFailed
  rw [fields] at ring ⊢
  have cleared : Linked (s.withRing { s.ring with liveMap := m }) :=
    { ring := ring
      line := .of_idle h.line.receiver quiet (h.waiting_none_of_passing link)
      sched := { h.sched with } }
  dsimp only
  split
  · next d next =>
    exact ⟨cleared.passToken quiet runs settled go sends (successorOf_ne_own next) _,
      fun _ => State.progressOk_of_frame rfl⟩
  · exact ⟨cleared.startHolding quiet runs sends go 0, fun _ => State.progressOk_of_waiting rfl⟩

/-- A running window that is stopped leaves all else as it was. -/
theorem expired (h : Linked s) (runs : s.ring.window.isStopped = false) :
    Expired (s.withRing { s.ring with window := .stopped }) := by
  have awaits := h.ring.window runs
  have go := h.go_of_timer (.inl runs)
  have quiet := h.quiet_of_timer (.inl runs)
  have settled : s.ring.pause.isStopped = true := h.pause_stopped (fun e => by rw [e] at awaits; exact nomatch awaits)
  refine ⟨⟨?_, .of_quiet h.line.receiver quiet fun w e => ?_, { h.sched with }⟩, quiet, ⟨rfl, settled⟩, go, awaits⟩
  · exact { h.ring with
      window := fun f => nomatch f
      stop := fun stop => by rw [show s.ring.stopRequest = true from stop] at go; exact nomatch go }
  · have fits := h.line.request w e
    unfold Waiting.fits at fits ⊢
    cases k : w.kind <;> rw [k] at fits
    case token => rw [runs] at fits; simp at fits
    all_goals exact fits

theorem windowExpired (h : Expired s) : Sound P s.windowExpired := by
  obtain ⟨h, quiet, settled, go, awaits⟩ := h
  unfold State.windowExpired
  split
  case h_1 link =>
    exact ⟨h.unheardTo quiet (by rw [link]; rfl) settled go (h.ring.listenOnly_false (by rw [link]; exact ⟨nofun, nofun⟩))
      (.inl rfl), fun _ => State.progressOk_of_silent (unheardTo_silent s (.inl rfl))⟩
  case h_2 link =>
    have sends := h.ring.listenOnly_false (by rw [link]; exact ⟨nofun, nofun⟩)
    unfold State.inviteExpired
    dsimp only
    split
    · next d next =>
      have advanced : Linked (s.withRing s.ring.unanswered) :=
        h.withRing { h.ring with } rfl rfl ⟨rfl, rfl⟩ ⟨rfl, rfl⟩
      exact ⟨advanced.passToken quiet (by show s.ring.link.runsTimers = true; rw [link]; rfl) settled go sends
        (successorOf_ne_own next) _, fun _ => State.progressOk_of_frame rfl⟩
    · next alone => exact h.beginPause quiet link settled go alone
  case h_3 link =>
    have sends := h.ring.listenOnly_false (by rw [link]; exact ⟨nofun, nofun⟩)
    have runs : s.ring.link.runsTimers = true := by rw [link]; rfl
    unfold State.passExpired
    split
    · next d _ awaited =>
      exact ⟨h.passToken quiet runs settled go sends (fun own => h.ring.notSelf (.inl link) (by rw [awaited, own])) _,
        fun _ => State.progressOk_of_frame rfl⟩
    · exact h.passFailed quiet settled go link
  all_goals next link => rw [link] at awaits; exact nomatch awaits

theorem execResponseWindowExpiry_kept (h : Linked s) (settled : s.ring.changed = false) :
    Ensures (Kept s) (execResponseWindowExpiry s) := by
  rw [execResponseWindowExpiry, ensures_next]
  split
  · next due =>
    obtain ⟨c, running, -⟩ := (Timer.expired_iff _ _).mp due
    have runs : s.ring.window.isStopped = false := by rw [running]; rfl
    exact (windowExpired (h.expired runs)).reported
  · exact (SameLink.refl s).kept h settled

theorem execLonePauseEnd_kept (h : Linked s) (settled : s.ring.changed = false) : Ensures (Kept s) (execLonePauseEnd s) := by
  rw [execLonePauseEnd, ensures_next]
  split
  · next due =>
    obtain ⟨c, running, -⟩ := (Timer.expired_iff _ _).mp due
    have runs : s.ring.pause.isStopped = false := by rw [running]; rfl
    have link := h.ring.pause runs
    exact .reported (h.startHolding (h.quiet_of_timer (.inr runs)) (by rw [link]; rfl)
      (h.ring.listenOnly_false (by rw [link]; exact ⟨nofun, nofun⟩)) (h.go_of_timer (.inr runs)) 0)
      fun _ => State.progressOk_of_waiting rfl
  · exact (SameLink.refl s).kept h settled

/-! ### Sending (R37, R70, R78, R86, R92, R93) -/

/-- What an opportunity or its claim says: a holding in progress, with no stop request (R91, R92). -/
theorem sends_of_opportunity (h : Linked s) (quiet : Quiet s.line s.sched) {w : Waiting} (waits : s.line.waiting = some w)
    (kind : w.kind = .opportunity) : Sends s := by
  have fits := h.line.request w waits
  unfold Waiting.fits at fits
  rw [kind] at fits
  simp only [Bool.and_eq_true, Bool.not_eq_true'] at fits
  exact ⟨quiet, fits.1, fits.2⟩

theorem sends_of_claim (h : Linked s) (quiet : Quiet s.line s.sched) {w : Waiting} (waits : s.line.waiting = some w)
    (kind : w.kind = .claimed) : Sends s ∧ 1 ≤ s.sched.framesLeft := by
  have fits := h.line.request w waits
  unfold Waiting.fits at fits
  rw [kind] at fits
  simp only [Bool.and_eq_true, Bool.not_eq_true', decide_eq_true_eq] at fits
  obtain ⟨⟨holding, go⟩, left⟩ := fits
  exact ⟨⟨quiet, holding, go⟩, left⟩

theorem execSendOpportunity_kept (h : Linked s) (settled : s.ring.changed = false) :
    Ensures (Kept s) (execSendOpportunity s) := by
  rw [execSendOpportunity, ensures_next]
  split
  · next due =>
    obtain ⟨w, waits, kind, ⟨-, -, still⟩, -⟩ := s.rowDue_sendOpportunity.mpr due
    have sends := h.sends_of_opportunity ((quiet_iff s).mp still) waits kind
    split
    · exact (h.sendingEnded sends).reported
    · next left =>
      refine ⟨h.await sends.quiet fun x e => ?_, settled, fun _ => State.progressOk_of_waiting (w := w.claim) ?_⟩
      · rw [waits] at e
        cases e
        show (s.sched.holding && !s.ring.stopRequest && decide (1 ≤ s.sched.framesLeft)) = true
        rw [sends.holding, sends.go, decide_eq_true (by omega)]; rfl
      · show s.line.waiting.map Waiting.claim = _
        rw [waits]; rfl
  · exact (SameLink.refl s).kept h settled

theorem execFindAndSnapshot_kept (h : Linked s) (settled : s.ring.changed = false) :
    Ensures (Kept s) (execFindAndSnapshot s) := by
  rw [execFindAndSnapshot, ensures_next]
  split
  · next due =>
    obtain ⟨claimed, still⟩ := s.snapshotDue_iff.mp due
    obtain ⟨w, waits, kind⟩ := Option.map_eq_some_iff.mp claimed
    obtain ⟨sends, left⟩ := h.sends_of_claim ((quiet_iff s).mp still) waits kind
    split
    · next k _ =>
      have link := h.sends_link sends
      obtain ⟨-, pause, isOpen⟩ := h.sched.holding sends.holding
      refine ⟨⟨h.ring.releaseSilence, ?_, ?_⟩, settled, fun _ => State.progressOk_of_snapshot rfl⟩
      · exact
          { receiver := (LineFits.of_begun (f := ⟨.claim, 0⟩) h.line.receiver sends.quiet.1 (by rw [link]; rfl)
              ⟨h.window_of_holding link, pause⟩ (by rw [link, sends.holding]; rfl)).receiver
            sending := fun _ => by
              refine ⟨by show s.ring.link.silent = false; rw [link]; rfl, rfl, ?_, h.window_of_holding link, pause⟩
              show (if s.line.receiver = .assembling then Receiver.hunting else s.line.receiver) ≠ .assembling
              split
              · decide
              · assumption
            snapshot := fun _ => ⟨rfl, sends.holding⟩
            frame := fun f e => nomatch e
            request := fun w e => nomatch e }
      · exact { h.sched with frameLeft := fun _ => left }
    · exact (h.sendingEnded sends).reported
  · exact (SameLink.refl s).kept h settled

/-- A TOKEN of a stop begins: the link stays as it is, and the holding ends (R86). -/
theorem beginStopToken (h : Linked s) (quiet : Quiet s.line s.sched) (stop : s.ring.stopRequest = true)
    (link : s.ring.link = .holding ∨ s.ring.link = .inviting) (d : Addr) :
    Sound P ((s.endHolding).beginRingFrame .token d) := by
  obtain ⟨silent, stopped⟩ := h.ring.stop stop
  refine ⟨⟨h.ring.releaseSilence, .of_begun h.line.receiver quiet.1 silent stopped ?_,
    h.sched.endHolding quiet.1 rfl id⟩, fun _ => State.progressOk_of_frame rfl⟩
  show (decide (s.ring.link = .passing) ||
    (s.ring.stopRequest && (decide (s.ring.link = .holding) || decide (s.ring.link = .inviting)))) = true
  rw [stop]
  rcases link with e | e <;> rw [e] <;> rfl

theorem execRingFrameStart_kept (h : Linked s) (settled : s.ring.changed = false) :
    Ensures (Kept s) (execRingFrameStart s) := by
  rw [execRingFrameStart, ensures_next]
  split
  · next w waits =>
    split
    · next due =>
      obtain ⟨v, waits', ⟨-, -, still⟩, kind⟩ := s.rowDue_ringFrameStart.mpr due
      cases waits.symm.trans waits'
      have quiet := (quiet_iff s).mp still
      have fits := h.line.request w waits
      unfold Waiting.fits at fits
      unfold State.startRequested
      rcases kind with ⟨a, kind⟩ | ⟨kind, node⟩ <;> rw [kind] at fits ⊢
      · simp only [Bool.and_eq_true, Bool.not_eq_true', Bool.or_eq_true, decide_eq_true_eq] at fits
        obtain ⟨sends, link⟩ := fits
        have silent : s.ring.link.silent = true := by rcases link with e | e <;> rw [e] <;> rfl
        have idle : s.sched.holding = false := Bool.eq_false_iff.mpr fun f => by
          rw [(h.sched.holding f).1] at silent
          exact nomatch silent
        exact .reported (h.beginJoin quiet (by rcases link with e | e <;> rw [e] <;> rfl) (h.settled_of_silent silent)
          (h.ring.stop_false silent) sends idle a) fun _ => State.progressOk_of_frame rfl
      · simp only [Bool.and_eq_true, Bool.or_eq_true, decide_eq_true_eq] at fits
        obtain ⟨⟨-, window⟩, link⟩ := fits
        show Kept s s.beginToken.reportLink
        unfold State.beginToken
        split
        · next d next =>
          split
          · next stop =>
            exact (h.beginStopToken quiet stop (link.symm.imp_left And.right) d).reported
          · next go =>
            have link : s.ring.link = .inviting := link.resolve_right fun e => go e.1
            exact .reported (h.passToken quiet (by rw [link]; rfl) ⟨window, h.pause_stopped (by rw [link]; exact nofun)⟩
              (Bool.eq_false_iff.mpr go) (h.ring.listenOnly_false (by rw [link]; exact ⟨nofun, nofun⟩))
              (successorOf_ne_own next) _) fun _ => State.progressOk_of_frame rfl
        · next alone => exact absurd alone node
    · exact (SameLink.refl s).kept h settled
  · exact (SameLink.refl s).kept h settled

/-! ### The ends of frames (R36, R37, R39, R86, R96) -/

theorem restartSilence_eq_silence (r : Ring) : r.restartSilence = { r with silence := r.restartSilence.silence } := by
  unfold Ring.restartSilence
  split <;> rfl

theorem handOn (h : Linked s) (r : FilingRequest) : Linked (s.handOn r) :=
  SameLink.linked (s := s) ⟨rfl, rfl, rfl, rfl, rfl⟩ h

/-- The end of a slot's frame: a holding with nothing on the line (R96). -/
theorem endSlotFrame (h : Linked s) {x : Snapshot} (sending : s.sched.snapshot = some x) :
    Linked (s.endSlotFrame x) ∧ Quiet (s.endSlotFrame x).line (s.endSlotFrame x).sched := by
  have flies : s.sched.snapshot.isSome = true := by rw [sending]; rfl
  have quiet : Quiet s.line.endFrame { s.sched with snapshot := none, framesLeft := s.sched.framesLeft - 1 } := ⟨rfl, rfl⟩
  have fits : Linked (((s.reportFrameSent x.slot).withSched
      { s.sched with snapshot := none, framesLeft := s.sched.framesLeft - 1 }).withRing s.ring.restartSilence
        |>.withLine s.line.endFrame) := by
    refine ⟨h.ring.restartSilence, .of_idle ?_ quiet (h.line.waiting_none (.inl flies)), ?_⟩
    · show _ ↔ s.ring.restartSilence.link = _
      rw [restartSilence_eq_silence]
      exact h.line.receiver
    · show SchedFits s.ring.restartSilence _
      rw [restartSilence_eq_silence]
      exact { h.sched with
        framesMax := (Nat.sub_le _ _).trans h.sched.framesMax
        framesNone := fun idle => by
          have none := h.sched.framesNone idle
          show s.sched.framesLeft - 1 = 0
          omega
        frameLeft := fun f => nomatch f }
  unfold State.endSlotFrame
  dsimp only
  split
  · exact ⟨fits.handOn _, quiet⟩
  · exact ⟨fits, quiet⟩

/-- The end of a slot's frame leaves the link state and the stop request as they are (R96). -/
theorem endSlotFrame_keeps (s : State) (x : Snapshot) :
    (s.endSlotFrame x).ring.link = s.ring.link ∧ (s.endSlotFrame x).ring.stopRequest = s.ring.stopRequest ∧
      (s.endSlotFrame x).sched.holding = s.sched.holding ∧ (s.endSlotFrame x).sched.sendingOpen = s.sched.sendingOpen := by
  have keeps : s.ring.restartSilence.link = s.ring.link ∧ s.ring.restartSilence.stopRequest = s.ring.stopRequest := by
    rw [restartSilence_eq_silence]
    exact ⟨rfl, rfl⟩
  unfold State.endSlotFrame
  dsimp only
  split <;> exact ⟨keeps.1, keeps.2, rfl, rfl⟩

theorem execFrameEnd_kept (h : Linked s) (settled : s.ring.changed = false) : Ensures (Kept s) (execFrameEnd s) := by
  rw [execFrameEnd, ensures_next]
  split
  · next x sending =>
    split
    · obtain ⟨fits, quiet⟩ := h.endSlotFrame sending
      obtain ⟨-, holds⟩ := h.line.snapshot (by rw [sending]; rfl)
      obtain ⟨link, -, isOpen⟩ := h.sched.holding holds
      obtain ⟨sameLink, -, sameHolding, sameOpen⟩ := endSlotFrame_keeps s x
      refine Sound.reported (s := s) ?_
      unfold State.afterSlotFrame
      split
      · next stop => exact fits.afterStoppedFrame quiet stop (.inl (sameLink.trans link))
      · next go =>
        rw [if_pos (by rw [sameHolding, holds, sameOpen, isOpen]; rfl)]
        refine ⟨fits.await quiet fun y e => ?_, fun _ => State.progressOk_of_waiting rfl⟩
        cases e
        show ((s.endSlotFrame x).sched.holding && !(s.endSlotFrame x).ring.stopRequest) = true
        rw [sameHolding, holds, Bool.eq_false_iff.mpr go]; rfl
    · exact (SameLink.refl s).kept h settled
  · exact (SameLink.refl s).kept h settled

/-- The end of a frame of the ring controller, before what follows it (R36, R40). -/
theorem endRingFrame (h : Linked s) {f : RingFrame} (sending : s.line.ringFrame = some f) :
    Linked s.endRingFrame ∧ Quiet s.endRingFrame.line s.endRingFrame.sched := by
  have flies : s.line.ringFrame.isSome = true := by rw [sending]; rfl
  have quiet : Quiet s.line.endFrame s.sched := by
    refine ⟨?_, rfl⟩
    cases e : s.sched.snapshot with
    | none => rfl
    | some x =>
      rw [(h.line.snapshot (by rw [e]; rfl)).1] at sending
      exact nomatch sending
  refine ⟨⟨h.ring.restartSilence, ?_, ?_⟩, quiet⟩
  · refine .of_idle ?_ quiet (h.line.waiting_none (.inr flies))
    show _ ↔ s.ring.restartSilence.link = _
    rw [restartSilence_eq_silence]
    exact h.line.receiver
  · show SchedFits s.ring.restartSilence s.sched
    rw [restartSilence_eq_silence]
    exact { h.sched with }

/-- The ring controller keeps its link state and its stop request as its frame ends. -/
theorem endRingFrame_keeps (s : State) :
    s.endRingFrame.ring.link = s.ring.link ∧ s.endRingFrame.ring.stopRequest = s.ring.stopRequest := by
  show s.ring.restartSilence.link = _ ∧ s.ring.restartSilence.stopRequest = _
  rw [restartSilence_eq_silence]
  exact ⟨rfl, rfl⟩

/-- The response window starts, its answer awaited (R39). -/
theorem startWindow (h : Linked s) (quiet : Quiet s.line s.sched) (idle : s.line.waiting = none)
    (awaits : s.ring.link.awaits = true) (go : s.ring.stopRequest = false) : Sound P s.startWindow :=
  ⟨⟨h.ring.startWindow awaits go, .of_idle h.line.receiver quiet idle, { h.sched with }⟩,
    fun _ _ => .inr (.inr (.inl rfl))⟩

theorem finishRingFrame (h : Linked s) {f : RingFrame} (sending : s.line.ringFrame = some f) :
    Kept s (s.finishRingFrame f.kind) := by
  obtain ⟨ended, quiet⟩ := h.endRingFrame sending
  obtain ⟨link, stop⟩ := endRingFrame_keeps s
  have fits := h.line.frame f sending
  unfold RingFrame.fits at fits
  have flies : InFlight s.line s.sched := .inr (by rw [sending]; rfl)
  have idle : s.endRingFrame.line.waiting = none := h.line.waiting_none flies
  unfold State.finishRingFrame
  refine Sound.reported (s := s) ?_
  split
  · next stands =>
    unfold State.stoppedFrameEnded
    cases kind : f.kind <;> rw [kind] at fits <;> dsimp only
    case token | join => exact ended.reachOff_sound quiet
    case claim =>
      simp only [Bool.and_eq_true, decide_eq_true_eq] at fits
      exact ended.afterStoppedFrame quiet (stop.trans stands) (.inl (link.trans fits.1))
    case invite => exact ended.afterStoppedFrame quiet (stop.trans stands) (.inr (link.trans (of_decide_eq_true fits)))
  · next go =>
    have go := Bool.eq_false_iff.mpr go
    unfold State.ringFrameEnded
    cases kind : f.kind <;> rw [kind] at fits <;> dsimp only
    case claim =>
      simp only [Bool.and_eq_true, decide_eq_true_eq] at fits
      refine ⟨ended.await quiet fun y e => ?_, fun _ => State.progressOk_of_waiting rfl⟩
      cases e
      show (s.sched.holding && !s.endRingFrame.ring.stopRequest) = true
      rw [fits.2, stop, go]; rfl
    case token =>
      rw [go] at fits
      exact ended.startWindow quiet idle (by rw [link, of_decide_eq_true ((Bool.or_false _).symm.trans fits)]; rfl) (stop.trans go)
    case invite | join => exact ended.startWindow quiet idle (by rw [link, of_decide_eq_true fits]; rfl) (stop.trans go)

theorem execRingFrameEnd_kept (h : Linked s) (settled : s.ring.changed = false) : Ensures (Kept s) (execRingFrameEnd s) := by
  rw [execRingFrameEnd, ensures_next]
  split
  · next f sending =>
    split
    · exact h.finishRingFrame sending
    · exact (SameLink.refl s).kept h settled
  · exact (SameLink.refl s).kept h settled

/-! ### Activities and the clock (R32, R35, R39 to R41) -/

theorem seeActive (h : Linked s) (settled : s.ring.changed = false) (clocks : Nat) : Kept s (s.seeActive clocks) := by
  unfold State.seeActive
  split
  · next hunts =>
    obtain ⟨hunting, still⟩ := s.hunts_iff.mp hunts
    have quiet := (quiet_iff s).mp still
    have on : s.ring.link ≠ .off := fun off => by rw [h.line.receiver.mpr off] at hunting; exact nomatch hunting
    split
    · have held := h.withTimers s.ring.window.hold_isStopped s.ring.silence.hold_isStopped s.ring.pause.hold_isStopped
      refine ⟨⟨held.ring, .of_quiet (iff_of_false nofun on) quiet fun w e => held.line.request w e, held.sched⟩, settled,
        fun moves busy => ?_⟩
      have := moves busy
      rw [still] at this
      show _ ∨ _ ∨ s.ring.window.hold.isStopped = false ∨ s.ring.pause.hold.isStopped = false
      rw [s.ring.window.hold_isStopped, s.ring.pause.hold_isStopped]
      exact .inr (this.resolve_left nofun)
    · exact ⟨h.withLine rfl rfl rfl, settled, fun moves => moves⟩
  · exact (SameLink.refl s).kept h settled

theorem execActivityStart_kept (h : Linked s) (settled : s.ring.changed = false) (clocks : Nat) :
    Ensures (Kept s) (execActivityStart clocks s) := by
  rw [execActivityStart, ensures_next]
  split
  · obtain ⟨linked, settled, moves⟩ := h.seeActive settled clocks
    exact ⟨SameLink.linked (s := s.seeActive clocks) ⟨rfl, rfl, rfl, rfl, rfl⟩ linked, settled, moves⟩
  · exact (SameLink.refl s).kept h settled

/-- One clock: the timers count, and none starts or stops. -/
theorem tick (h : Linked s) (settled : s.ring.changed = false) : Kept s s.tick := by
  unfold State.tick
  split
  · exact (SameLink.refl s).kept h settled
  · have counted := (h.withTimers (s.ring.window.tick_isStopped (Config.responseWindow * s.line.divider))
      (s.ring.silence.tick_isStopped (Config.silenceTimeout s.ring.ownAddress * s.line.divider))
      (s.ring.pause.tick_isStopped (Config.lonePause * s.line.divider))).withLine (l := s.tickLine) rfl rfl
        (by show (s.line.waiting.map _).map _ = _; rw [Option.map_map]; rfl)
    refine ⟨⟨counted.ring, counted.line, counted.sched⟩, settled, fun moves busy => ?_⟩
    have := moves busy
    show s.transmitting = true ∨ (s.line.waiting.map _).isSome = true ∨ (s.ring.window.tick _).isStopped = false ∨
      (s.ring.pause.tick _).isStopped = false
    rw [Option.isSome_map, Timer.tick_isStopped, Timer.tick_isStopped]
    exact this

end Linked
end Sys2Proof.Machine
end

section
/-!
PROOFS. The rows of the other blocks leave the link as it is; with the rows of the link, every row and the clock keep
it.
-/
namespace Sys2Proof.Machine

/-! ### The rows that do not touch the link -/

section
variable (s : State)

/-- The end of an execution step, and what precedes it, beside the link. -/
theorem SameLink.finishStatus {s t : State} (h : SameLink s t) (st : Status) : SameLink s (t.finishStatus st) :=
  h.trans ⟨rfl, rfl, rfl, rfl, rfl⟩

theorem State.storeSlot_sameLink (o : StoreOperands) : SameLink s (s.storeSlot o) := by
  unfold State.storeSlot
  dsimp only
  split <;> split <;> exact ⟨rfl, rfl, rfl, rfl, rfl⟩

theorem SameLink.lookForNotice {s t : State} (h : SameLink s t) : SameLink s t.lookForNotice := by
  rw [State.lookForNotice_eq]
  exact h.trans ⟨rfl, rfl, rfl, rfl, rfl⟩

theorem execNop_sameLink : Ensures (SameLink s) (execNop s) := by
  rw [execNop, ensures_next]
  split
  · exact (SameLink.refl s).finishStatus _
  · exact .refl s

theorem execStore_sameLink : Ensures (SameLink s) (execStore s) := by
  rw [execStore, ensures_next]
  split
  · split
    · unfold State.runStore
      split
      · exact (SameLink.refl s).finishStatus _
      · exact (s.storeSlot_sameLink _).finishStatus _
    · exact .refl s
  · exact .refl s

theorem execFetch_sameLink : Ensures (SameLink s) (execFetch s) := by
  rw [execFetch, ensures_next]
  split
  · split
    · unfold State.runFetch
      split <;> exact ⟨rfl, rfl, rfl, rfl, rfl⟩
    · exact .refl s
  · exact .refl s

theorem State.runSend_sameLink (k : SlotId) (confirm : Bool) : SameLink s (s.runSend k confirm) := by
  unfold State.runSend State.runConfirm
  split
  · exact (SameLink.refl s).finishStatus _
  · split
    · exact (SameLink.refl s).finishStatus _
    · split
      · split <;> exact ⟨rfl, rfl, rfl, rfl, rfl⟩
      · exact ⟨rfl, rfl, rfl, rfl, rfl⟩

theorem execSend_sameLink : Ensures (SameLink s) (execSend s) := by
  rw [execSend, ensures_next]
  split
  · split
    · exact s.runSend_sameLink _ _
    · exact .refl s
  · exact .refl s

theorem execCancel_sameLink : Ensures (SameLink s) (execCancel s) := by
  rw [execCancel, ensures_next]
  split
  · split
    · exact ⟨rfl, rfl, rfl, rfl, rfl⟩
    · exact .refl s
  · exact .refl s

theorem execTableClear_sameLink : Ensures (SameLink s) (execTableClear s) := by
  rw [execTableClear, ensures_next]
  split
  · split
    · exact ⟨rfl, rfl, rfl, rfl, rfl⟩
    · exact .refl s
  · exact .refl s

theorem execBarrier_sameLink : Ensures (SameLink s) (execBarrier s) := by
  rw [execBarrier, ensures_next]
  split
  · unfold State.runBarrier
    split
    · exact (SameLink.refl s).finishStatus _
    · split <;> exact ⟨rfl, rfl, rfl, rfl, rfl⟩
  · exact .refl s

theorem execTakeBegin_sameLink : Ensures (SameLink s) (execTakeBegin s) := by
  rw [execTakeBegin, ensures_next]
  split <;> exact ⟨rfl, rfl, rfl, rfl, rfl⟩

theorem State.readFailed_sameLink : SameLink s s.readFailed := by
  unfold State.readFailed
  split <;> exact ⟨rfl, rfl, rfl, rfl, rfl⟩

theorem State.writeFailed_sameLink : SameLink s s.writeFailed := by
  unfold State.writeFailed
  dsimp only
  split <;> exact ⟨rfl, rfl, rfl, rfl, rfl⟩

theorem execCqReadFail_sameLink (access : Nat) : Ensures (SameLink s) (execCqReadFail access s) := by
  rw [execCqReadFail, ensures_next]
  split
  · exact s.readFailed_sameLink
  · exact .refl s

theorem execEventWriteFail_sameLink (access : Nat) : Ensures (SameLink s) (execEventWriteFail access s) := by
  rw [execEventWriteFail, ensures_next]
  split
  · exact s.writeFailed_sameLink
  · exact .refl s

theorem execBusResponseTimeout_sameLink (access : BusAccess) : Ensures (SameLink s) (execBusResponseTimeout access s) := by
  rw [execBusResponseTimeout.eq_def, ensures_next]
  split
  · cases access with
    | commandRead => exact s.readFailed_sameLink
    | eventWrite => exact s.writeFailed_sameLink
  · exact .refl s

theorem SameLink.checkTaken {s t : State} (h : SameLink s t) (expected : Bool) (r : List Byte) :
    SameLink s (t.checkTaken expected r) := by
  unfold State.checkTaken
  split
  · exact h.trans ⟨rfl, rfl, rfl, rfl, rfl⟩
  · unfold State.claimFor
    split <;> exact h.trans ⟨rfl, rfl, rfl, rfl, rfl⟩

theorem execTakeEnd_sameLink (access : Nat) (record : List Byte) : Ensures (SameLink s) (execTakeEnd access record s) := by
  rw [execTakeEnd, ensures_next]
  split
  · exact .refl s
  · split
    · unfold State.endTake
      split
      · exact ⟨rfl, rfl, rfl, rfl, rfl⟩
      · refine SameLink.checkTaken ?_ _ _
        exact ⟨rfl, rfl, rfl, rfl, rfl⟩
    · exact .refl s

theorem execCompletionWrite_sameLink : Ensures (SameLink s) (execCompletionWrite s) := by
  rw [execCompletionWrite, ensures_next]
  split
  · split
    · unfold State.beginCompletion
      split
      · split <;> exact ⟨rfl, rfl, rfl, rfl, rfl⟩
      · exact .refl s
    · exact .refl s
  · exact .refl s

theorem execLinkNoticeWrite_sameLink : Ensures (SameLink s) (execLinkNoticeWrite s) := by
  rw [execLinkNoticeWrite, ensures_next]
  split
  · split <;> exact ⟨rfl, rfl, rfl, rfl, rfl⟩
  · exact .refl s

theorem execReadForNotice_sameLink : Ensures (SameLink s) (execReadForNotice s) := by
  rw [execReadForNotice, ensures_next]
  split
  · refine .trans (t := s.dropClaim .notice) ⟨rfl, rfl, rfl, rfl, rfl⟩ ?_
    unfold State.readFront
    split
    · split <;> exact ⟨rfl, rfl, rfl, rfl, rfl⟩
    · exact .refl _
  · exact .refl s

theorem execEventWriteDone_sameLink (access : Nat) : Ensures (SameLink s) (execEventWriteDone access s) := by
  rw [execEventWriteDone, ensures_next]
  split
  · exact .refl s
  · split
    · unfold State.writeEnded
      dsimp only
      refine .lookForNotice ?_
      split <;> exact ⟨rfl, rfl, rfl, rfl, rfl⟩
    · exact .refl s

theorem State.fileData_sameLink (source : Addr) (key : Key) (payload : List Byte) :
    SameLink s (s.fileData source key payload) := by
  rw [State.fileData_frame]
  exact ⟨rfl, rfl, rfl, rfl, rfl⟩

theorem State.fileSolicit_sameLink (key : Key) : SameLink s (s.fileSolicit key) := by
  rw [State.fileSolicit_frame]
  exact ⟨rfl, rfl, rfl, rfl, rfl⟩

theorem execFileData_sameLink : Ensures (SameLink s) (execFileData s) := by
  rw [execFileData, ensures_next]
  split
  · split
    · exact .lookForNotice (.trans (t := s.takeFiling) ⟨rfl, rfl, rfl, rfl, rfl⟩ (State.fileData_sameLink _ _ _ _))
    · exact .refl s
  · exact .refl s

theorem execFileSolicit_sameLink : Ensures (SameLink s) (execFileSolicit s) := by
  rw [execFileSolicit, ensures_next]
  split
  · split
    · exact .lookForNotice (.trans (t := s.takeFiling) ⟨rfl, rfl, rfl, rfl, rfl⟩ (State.fileSolicit_sameLink _ _))
    · exact .refl s
  · exact .refl s

theorem State.controlRun_sameLink (run : Bool) : SameLink s (s.controlRun run) := by
  unfold State.controlRun
  split
  · split
    · split
      · exact ⟨rfl, rfl, rfl, rfl, rfl⟩
      · exact .lookForNotice ⟨rfl, rfl, rfl, rfl, rfl⟩
    · exact .refl s
  · split <;> exact ⟨rfl, rfl, rfl, rfl, rfl⟩
  · exact ⟨rfl, rfl, rfl, rfl, rfl⟩

theorem execEvtHeadWrite_sameLink (value : Word) : Ensures (SameLink s) (execEvtHeadWrite value s) := by
  refine ensures_hostAccess (.refl s) ?_
  split
  · exact .lookForNotice ⟨rfl, rfl, rfl, rfl, rfl⟩
  · exact ⟨rfl, rfl, rfl, rfl, rfl⟩

theorem RegsMove.sameLink {s t : State} (h : RegsMove s t) : SameLink s t := by
  rw [show t = s.withRegs t.regs from h]
  exact ⟨rfl, rfl, rfl, rfl, rfl⟩

end

/-! ### The rows that do -/

/-- A step before which only other blocks have moved. -/
theorem Kept.after {s u t : State} (h : Kept u t) (same : SameLink s u) : Kept s t :=
  ⟨h.linked, h.settled, fun moves => h.moves (same.progressOk moves)⟩

/-- A step after which only other blocks move. -/
theorem Kept.then {s u t : State} (h : Kept s u) (same : SameLink u t) : Kept s t :=
  ⟨same.linked h.linked, by rw [same.ring]; exact h.settled, fun moves => same.progressOk (h.moves moves)⟩

/-- The link in reset: OFF, silent (R43, R89, R104). -/
theorem Kept.of_reset {s t : State} (ring : t.ring = Ring.atReset) (line : t.line = LineUnit.atReset)
    (sched : t.sched = Scheduler.atReset) : Kept s t := by
  refine ⟨⟨?_, ?_, ?_⟩, ?_, fun _ => State.progressOk_of_silent (by rw [ring]; rfl)⟩
  · rw [ring]; exact .atReset
  · rw [ring, line, sched]; exact .of_idle (iff_of_true rfl rfl) ⟨rfl, rfl⟩ rfl
  · rw [ring, sched]
    exact ⟨nofun, Nat.zero_le 15, fun _ => rfl, nofun, nofun, nofun⟩
  · rw [ring]; rfl

namespace Linked

variable {s : State} (h : Linked s) (settled : s.ring.changed = false)
include h settled

theorem kept_of_same {o : Host.Outcome State Fault Refusal} (same : Ensures (SameLink s) o) : Ensures (Kept s) o :=
  fun t e => (same t e).kept h settled

theorem kept_of_regs {o : Host.Outcome State Fault Refusal} (m : Ensures (RegsMove s) o) : Ensures (Kept s) o :=
  fun t e => (m t e).sameLink.kept h settled

theorem execLinkStart_kept (wf : ∀ c, s.engine.checked = some c → c.wf = true) : Ensures (Kept s) (execLinkStart s) := by
  rw [execLinkStart, ensures_next]
  split
  · next o checked =>
    unfold State.runLinkStart
    split
    · next down => exact (h.startLink (s.linkDown_iff.mp down) (wf _ checked)).then ⟨rfl, rfl, rfl, rfl, rfl⟩
    · exact ((SameLink.refl s).finishStatus _).kept h settled
  · exact (SameLink.refl s).kept h settled

theorem execLinkStop_kept : Ensures (Kept s) (execLinkStop s) := by
  rw [execLinkStop, ensures_next]
  split
  · unfold State.runLinkStop
    split
    · exact ((SameLink.refl s).finishStatus _).kept h settled
    · split
      · exact SameLink.kept ⟨rfl, rfl, rfl, rfl, rfl⟩ h settled
      · have same : SameLink s s.waitCommand := ⟨rfl, rfl, rfl, rfl, rfl⟩
        exact .after (.reported ((same.linked h).stopLink id).linked fun moves => ((same.linked h).stopLink id).moves moves) same
  · exact (SameLink.refl s).kept h settled

/-- The read of the ring controller clears the clash flag (R144). -/
theorem readRing_kept : Kept s s.readRing := by
  unfold State.readRing
  split
  · exact (SameLink.refl s).kept h settled
  · have cleared : Kept s (s.withRing { s.ring with clash := false }) :=
      ⟨h.withRing { h.ring with } rfl rfl ⟨rfl, rfl⟩ ⟨rfl, rfl⟩, settled, id⟩
    exact cleared.then ⟨rfl, rfl, rfl, rfl, rfl⟩

omit h settled in
theorem readCounter_sameLink (s : State) : SameLink s s.readCounter := by
  unfold State.readCounter
  split <;> exact ⟨rfl, rfl, rfl, rfl, rfl⟩

omit h settled in
theorem readCursor_sameLink (s : State) : SameLink s s.readCursor := by
  unfold State.readCursor
  split <;> exact ⟨rfl, rfl, rfl, rfl, rfl⟩

theorem execMapRead_kept (part : MapPart) : Ensures (Kept s) (execMapRead part s) := by
  rw [execMapRead, ensures_next]
  split
  · refine .then (u := s.readPart part) ?_ ?_
    · cases part with
      | ring => exact h.readRing_kept settled
      | table => exact (readCounter_sameLink s).kept h settled
      | scheduler => exact (readCursor_sameLink s).kept h settled
      | rest => exact ((h.readRing_kept settled).then (readCounter_sameLink _)).then (readCursor_sameLink _)
    · unfold State.endMapRead
      split
      · exact ⟨rfl, rfl, rfl, rfl, rfl⟩
      · exact .refl _
  · exact (SameLink.refl s).kept h settled

theorem arriveAndFile_kept (a : Arrival) (r : FilingRequest) : Kept s (s.arriveAndFile a r) := by
  unfold State.arriveAndFile
  split
  · exact (h.arrive settled a).then ⟨rfl, rfl, rfl, rfl, rfl⟩
  · exact (SameLink.refl s).kept h settled

theorem arriveAddressed_kept (d : Byte) (a : Addr → Arrival) : Kept s (s.arriveAddressed d a) := by
  unfold State.arriveAddressed
  split <;> exact h.arrive settled _

theorem execDataFrame_kept (source : Addr) (key : Key) (payload : List Byte) :
    Ensures (Kept s) (execDataFrame source key payload s) := by
  rw [execDataFrame, ensures_next]
  split
  · exact h.arriveAndFile_kept settled _ _
  · exact h.arrive settled _

theorem execEngineReset_kept (run : Bool) : Ensures (Kept s) (execEngineReset run s) :=
  ensures_hostAccess ((SameLink.refl s).kept h settled)
    (SameLink.kept
      (SameLink.trans (s := s) (t := s.afterEngineReset) ⟨rfl, rfl, rfl, rfl, rfl⟩ (State.controlRun_sameLink _ run))
      h settled)

omit settled in
/-- A frame cut short by a low RESET pulse leaves the rest of the link as it was (R38, R168). -/
theorem cutFrame : Linked s.cutFrame := by
  unfold State.cutFrame
  split
  · next sending =>
    refine ⟨h.ring, .of_idle h.line.receiver ⟨rfl, rfl⟩ (h.line.waiting_none ((inFlight_iff s).mp sending)), ?_⟩
    exact { h.sched with frameLeft := nofun }
  · exact h

/-- A row of the link's part but the pulse that cuts a frame short. -/
theorem exec_kept (wf : ∀ c, s.engine.checked = some c → c.wf = true) (c : Instr)
    (long : ∀ n, n < 10 → c ≠ .powerOnReset (.pinLow n)) : Ensures (Kept s) (exec c s) := by
  have same := (SameLink.refl s).kept h settled
  cases c with
  | powerOnReset cause =>
    have reset : Kept s s.powerOn := .of_reset rfl rfl rfl
    cases cause with
    | supplyRise => exact ensures_next.mpr reset
    | pinLow n =>
      have enough : Config.resetPulse ≤ n := Nat.le_of_not_lt fun short => long n short rfl
      rw [exec_powerOnReset, execPowerOnReset, if_pos enough]
      exact ensures_next.mpr reset
  | deviceReset => exact ensures_hostAccess same (.of_reset rfl rfl rfl)
  | engineReset run => exact h.execEngineReset_kept settled run
  | runSet => exact ensures_hostAccess same ((s.controlRun_sameLink true).kept h settled)
  | runClear => exact ensures_hostAccess same ((s.controlRun_sameLink false).kept h settled)
  | statusWrite value => exact h.kept_of_regs settled (execStatusWrite_regsMove s value)
  | ringGeometryWrite reg value => exact h.kept_of_regs settled (execRingGeometryWrite_regsMove s reg value)
  | cmdTailWrite value => exact h.kept_of_regs settled (execCmdTailWrite_regsMove s value)
  | evtHeadWrite value => exact h.kept_of_same settled (execEvtHeadWrite_sameLink s value)
  | notifyLevelWrite value => exact h.kept_of_regs settled (execNotifyLevelWrite_regsMove s value)
  | notifyQuietWrite value => exact h.kept_of_regs settled (execNotifyQuietWrite_regsMove s value)
  | registerWriteOther offset width => exact h.kept_of_regs settled (execRegisterWriteOther_regsMove s offset width)
  | takeBegin => exact h.kept_of_same settled (execTakeBegin_sameLink s)
  | cqReadFail access => exact h.kept_of_same settled (execCqReadFail_sameLink s access)
  | nop => exact h.kept_of_same settled (execNop_sameLink s)
  | store => exact h.kept_of_same settled (execStore_sameLink s)
  | fetch => exact h.kept_of_same settled (execFetch_sameLink s)
  | send => exact h.kept_of_same settled (execSend_sameLink s)
  | cancel => exact h.kept_of_same settled (execCancel_sameLink s)
  | tableClear => exact h.kept_of_same settled (execTableClear_sameLink s)
  | linkStart => exact h.execLinkStart_kept settled wf
  | linkStop => exact h.execLinkStop_kept settled
  | mapRead part => exact h.execMapRead_kept settled part
  | barrier => exact h.kept_of_same settled (execBarrier_sameLink s)
  | completionWrite => exact h.kept_of_same settled (execCompletionWrite_sameLink s)
  | linkNoticeWrite => exact h.kept_of_same settled (execLinkNoticeWrite_sameLink s)
  | readForNotice => exact h.kept_of_same settled (execReadForNotice_sameLink s)
  | eventWriteDone access => exact h.kept_of_same settled (execEventWriteDone_sameLink s access)
  | eventWriteFail access => exact h.kept_of_same settled (execEventWriteFail_sameLink s access)
  | busResponseTimeout access => exact h.kept_of_same settled (execBusResponseTimeout_sameLink s access)
  | quietTimerExpiry => exact ensures_next.mpr (SameLink.kept ⟨rfl, rfl, rfl, rfl, rfl⟩ h settled)
  | activityStart clocks => exact h.execActivityStart_kept settled clocks
  | dataFrame source key payload => exact h.execDataFrame_kept settled source key payload
  | solicitFrame source key => exact ensures_next.mpr (h.arriveAndFile_kept settled _ _)
  | tokenFrame source d | inviteFrame source d | joinFrame source d =>
    exact ensures_next.mpr (h.arriveAddressed_kept settled d _)
  | claimFrame | foreignFrame | garbledFrame => exact ensures_next.mpr (h.arrive settled _)
  | fileData => exact h.kept_of_same settled (execFileData_sameLink s)
  | fileSolicit => exact h.kept_of_same settled (execFileSolicit_sameLink s)
  | silenceTimeout => exact h.execSilenceTimeout_kept settled
  | responseWindowExpiry => exact h.execResponseWindowExpiry_kept settled
  | lonePauseEnd => exact h.execLonePauseEnd_kept settled
  | sendOpportunity => exact h.execSendOpportunity_kept settled
  | findAndSnapshot => exact h.execFindAndSnapshot_kept settled
  | ringFrameStart => exact h.execRingFrameStart_kept settled
  | frameEnd => exact h.execFrameEnd_kept settled
  | ringFrameEnd => exact h.execRingFrameEnd_kept settled
  | takeEnd access record => exact h.kept_of_same settled (execTakeEnd_sameLink s access record)
  | leaveReset => exact ensures_next.mpr (SameLink.kept ⟨rfl, rfl, rfl, rfl, rfl⟩ h settled)

/-- Every row keeps the blocks fitting, a short low pulse on RESET too. -/
theorem exec_linked (wf : ∀ c, s.engine.checked = some c → c.wf = true) (c : Instr) :
    Ensures (fun t => Linked t ∧ t.ring.changed = false) (exec c s) := by
  by_cases short : ∃ n, n < 10 ∧ c = .powerOnReset (.pinLow n)
  · obtain ⟨n, short, rfl⟩ := short
    have reset : Kept s s.drawFree.powerOn := .of_reset rfl rfl rfl
    rw [exec_powerOnReset, execPowerOnReset, if_neg (show ¬ Config.resetPulse ≤ n from Nat.not_le_of_lt short)]
    split
    · exact ensures_next.mpr ⟨reset.linked, reset.settled⟩
    · refine ensures_next.mpr ⟨?_, ?_⟩
      · exact SameLink.linked (s := s.drawFree.cutFrame) ⟨rfl, rfl, rfl, rfl, rfl⟩ (cutFrame ⟨h.ring, h.line, h.sched⟩)
      · show s.drawFree.cutFrame.ring.changed = false
        unfold State.cutFrame
        split <;> exact settled
  · intro t e
    have kept := h.exec_kept settled wf c (fun n below e => short ⟨n, below, e⟩) t e
    exact ⟨kept.linked, kept.settled⟩

end Linked

/-- A row of the part's own is no reset (log 2). -/
theorem OwnRow.not_reset {c : Instr} (own : OwnRow c) (cause : ResetCause) : c ≠ .powerOnReset cause := by
  rintro rfl
  exact nomatch own

/-- Settles O60: the link under every row, and under the clock. -/
theorem stepKeepsLinkAndLine : Obligations.StepKeepsLinkAndLine := by
  unfold Obligations.StepKeepsLinkAndLine
  intro s t inv stepped
  have linkSide : ∀ u : State, u.Inv → Linked u ∧ u.ring.changed = false := fun u inv =>
    (linked_iff u).mp ⟨inv.2.2.1, inv.2.2.2.1, inv.2.2.2.2⟩
  have wf : ∀ u : State, u.Inv → ∀ c, u.engine.checked = some c → c.wf = true := fun u inv c hc => by
    obtain ⟨-, ⟨-, -, ⟨-, -, -, -, checked⟩, -, -, -, -⟩, -, -, -⟩ := inv
    rw [hc] at checked
    exact (Bool.and_eq_true_iff.mp checked).1
  have keeps : Linked t ∧ t.ring.changed = false := by
    refine step_ensures (P := fun t => Linked t ∧ t.ring.changed = false) inv (fun c u inv => ?_) ?_ t stepped
    · exact (linkSide u inv).1.exec_linked (linkSide u inv).2 (wf u inv) c
    · have kept := (linkSide s inv).1.tick (linkSide s inv).2
      exact ⟨kept.linked, kept.settled⟩
  obtain ⟨⟨node, timers, options⟩, line, sending⟩ := (linked_iff t).mpr keeps
  refine ⟨node, timers, options, line, sending, fun moves long => ?_⟩
  obtain ⟨linked, settled⟩ := linkSide s inv
  unfold step at stepped
  split at stepped
  · split at stepped
    · next c own =>
      exact (linked.exec_kept settled (wf s inv) c (fun n _ => (State.ownRow_due own).1.not_reset _) t stepped).moves moves
    · cases stepped
      exact (linked.tick settled).moves moves
  · next c rest queue =>
    rw [queue] at long
    have linked : Linked (s.withPending rest) := ⟨linked.ring, linked.line, linked.sched⟩
    exact (linked.exec_kept settled (wf s inv) c (fun n below e => long n below (by rw [e]; rfl)) t
      stepped).moves moves

end Sys2Proof.Machine
end

section
/-!
PROOFS. The ten commands: what the execution step of each does when it may be made (R127 to R145).
-/
namespace Sys2Proof.Machine

variable {s : State}

/-! ### The execution step that is due -/

/-- Slot work at its turn may be done (R9). -/
theorem State.commandDue_of_turn (turn : s.turn .command = true) (c : Command) : s.commandDue c = true := by
  rw [State.commandDue, turn, Bool.or_true, Bool.true_or]

theorem exec_nop_of (checked : s.engine.checked = some .nop) : exec .nop s = .next (s.finishStatus .ok) := by
  rw [exec_nop, execNop, checked]

theorem exec_store_of {o : StoreOperands} (checked : s.engine.checked = some (.store o)) (turn : s.turn .command = true) :
    exec .store s = .next (s.runStore o) := by
  rw [exec_store, execStore, checked]
  exact congrArg _ (if_pos (State.commandDue_of_turn turn _))

theorem exec_fetch_of {k : SlotId} {consume : Bool} (checked : s.engine.checked = some (.fetch k consume))
    (turn : s.turn .command = true) : exec .fetch s = .next (s.runFetch k consume) := by
  rw [exec_fetch, execFetch, checked]
  exact congrArg _ (if_pos (State.commandDue_of_turn turn _))

theorem exec_send_of {k : SlotId} {confirm : Bool} (checked : s.engine.checked = some (.send k confirm))
    (due : s.commandDue (.send k confirm) = true) : exec .send s = .next (s.runSend k confirm) := by
  rw [exec_send, execSend, checked]
  exact congrArg _ (if_pos due)

theorem exec_cancel_of {k : SlotId} (checked : s.engine.checked = some (.cancel k)) (turn : s.turn .command = true) :
    exec .cancel s = .next (s.runCancel k) := by
  rw [exec_cancel, execCancel, checked]
  exact congrArg _ (if_pos (State.commandDue_of_turn turn _))

theorem exec_tableClear_of (checked : s.engine.checked = some .tableClear) (turn : s.turn .command = true) :
    exec .tableClear s = .next (s.clearTable.finishStatus .ok) := by
  rw [exec_tableClear, execTableClear, checked]
  exact congrArg _ (if_pos (State.commandDue_of_turn turn _))

theorem exec_linkStart_of {o : LinkOptions} (checked : s.engine.checked = some (.linkStart o)) :
    exec .linkStart s = .next (s.runLinkStart o) := by
  rw [exec_linkStart, execLinkStart, checked]

theorem exec_linkStop_of (checked : s.engine.checked = some .linkStop) : exec .linkStop s = .next s.runLinkStop := by
  rw [exec_linkStop, execLinkStop, checked]

theorem exec_mapRead_of (checked : s.engine.checked = some .mapRead) (part : MapPart) :
    exec (.mapRead part) s = .next (s.readPart part).endMapRead := by
  rw [exec_mapRead, execMapRead, checked]

theorem exec_barrier_of (checked : s.engine.checked = some .barrier) : exec .barrier s = .next s.runBarrier := by
  rw [exec_barrier, execBarrier, checked]

/-! ### NOP, FETCH, CANCEL, TABLE_CLEAR -/

/-- Settles O21: NOP is done with OK and does nothing else. -/
theorem nopRuns : Obligations.NopRuns := by
  unfold Obligations.NopRuns
  intro s checked
  rw [exec_nop_of checked, State.finishStatus_eq]

/-- Settles O23: the copy is taken before any consume (R13, R131). -/
theorem fetchRuns : Obligations.FetchRuns := by
  unfold Obligations.FetchRuns
  intro s k turn
  refine ⟨fun checked => ?plain, fun checked => ?consuming⟩ <;>
    rw [exec_fetch_of checked turn, State.runFetch, State.finishCommand_eq]
  case plain => rfl
  case consuming => rfl

/-- TOO_LATE while the slot's frame is in flight (R100). -/
theorem State.slotInFlight_iff (s : State) (k : SlotId) :
    s.slotInFlight = some k ↔ ∃ f, s.sched.snapshot = some f ∧ f.slot = k := by
  simp [State.slotInFlight]

/-- Settles O25: CANCEL by whether the slot's frame is in flight, and TABLE_CLEAR. -/
theorem cancelAndTableClearRun : Obligations.CancelAndTableClearRun := by
  unfold Obligations.CancelAndTableClearRun
  refine ⟨fun s k checked turn => ⟨fun flies => ?late, fun free => ?inTime⟩, fun s checked turn => ?clear⟩
  case late =>
    rw [exec_cancel_of checked turn, State.runCancel, if_pos ((s.slotInFlight_iff k).mpr flies), State.finishCommand_eq,
      State.clearPending, State.reportCleared, finishSends_eq]
    rfl
  case inTime =>
    have free : ¬ s.slotInFlight = some k := fun e => by
      obtain ⟨f, flies, same⟩ := (s.slotInFlight_iff k).mp e
      exact free f flies same
    rw [exec_cancel_of checked turn, State.runCancel, if_neg free, State.finishCommand_eq, State.clearPending,
      State.reportCleared, finishSends_eq]
    rfl
  case clear =>
    rw [exec_tableClear_of checked turn, State.finishStatus_eq, State.clearTable, State.reportTableClosed,
      finishWaits_eq]
    rfl

/-! ### STORE -/

/-- When SETUP finds its slot live, and what the other refusal asks (R10, R12). -/
theorem StoreOperands.slotLive_iff (o : StoreOperands) (x : Slot) :
    o.slotLive x = true ↔ x.inService = true ∧ ∃ g, o.setup = some g ∧ g.inService = true := by
  unfold StoreOperands.slotLive
  cases o.setup <;> simp [and_comm]

theorem StoreOperands.leavesInService_eq (o : StoreOperands) (x : Slot) :
    o.leavesInService x = (o.setup.map (·.inService)).getD x.inService := by
  unfold StoreOperands.leavesInService
  cases o.setup <;> rfl

theorem StoreOperands.closes_iff (o : StoreOperands) (x : Slot) :
    o.closes x = true ↔ x.inService = true ∧ ∃ g, o.setup = some g ∧ g.inService = false := by
  unfold StoreOperands.closes
  cases o.setup <;> simp [and_comm]

/-- What the write operation of a STORE does beside the slot (R9, R130). -/
theorem State.storeSlot_eq (s : State) (o : StoreOperands) : s.storeSlot o = { s with
    slots := s.slots.set o.slot (o.apply s.slots[o.slot])
    events.noticeList :=
      if o.closes s.slots[o.slot] || o.clearStatus then leaveNotice o.slot s.events.noticeList else s.events.noticeList
    engine.openList :=
      if o.closes s.slots[o.slot] then endSends o.slot .slotClosed s.engine.openList else s.engine.openList } := by
  unfold State.storeSlot State.reportClosed
  dsimp only
  rw [finishSends_eq]
  cases o.closes s.slots[o.slot] <;> cases o.clearStatus <;> rfl

/-- Settles O22: the two refusals, and the write with what it hands to the notice list and the open list. -/
theorem storeRuns : Obligations.StoreRuns := by
  unfold Obligations.StoreRuns
  intro s o checked turn
  dsimp only
  rw [exec_store_of checked turn, State.runStore, StoreOperands.refusal]
  rw [← StoreOperands.slotLive_iff, ← StoreOperands.closes_iff, ← StoreOperands.leavesInService_eq]
  refine ⟨fun live => ?live, fun free after out => ?out, fun free stays => ?done⟩
  case live =>
    rw [if_pos live]
    dsimp only
    rw [State.finishStatus_eq]
  case out =>
    rw [if_neg free, after, out, if_pos (by rfl)]
    dsimp only
    rw [State.finishStatus_eq]
  case done =>
    rw [if_neg free, if_neg (by simpa using stays)]
    dsimp only
    rw [State.finishStatus_eq, State.storeSlot_eq, StoreOperands.apply_eq, ← StoreOperands.leavesInService_eq]
    refine ⟨_, rfl, rfl, fun leaves => ?_, fun keeps clear => ?_, fun closes => ?_, fun keeps => ?_⟩
    · rw [show (o.closes s.slots[o.slot] || o.clearStatus) = true by simpa using leaves]
      rfl
    · rw [Bool.eq_false_iff.mpr keeps, clear]
      rfl
    · rw [closes]; rfl
    · rw [Bool.eq_false_iff.mpr keeps]; rfl

/-! ### SEND -/

/-- Settles O24: the refusals in the order of R127, then send pending set, and the wait of a confirm-SEND. -/
theorem sendRuns : Obligations.SendRuns := by
  unfold Obligations.SendRuns
  intro s k confirm checked
  dsimp only
  rw [← State.linkDown_iff, ← State.longFull_iff, ← Bool.and_eq_true]
  refine ⟨fun full => ?full, fun room turn out => ?out, fun plain turn live => ?plain,
    fun room confirms turn live down => ?down, fun room confirms turn live up => ?waits⟩
  case full =>
    have due : s.commandDue (.send k confirm) = true := by
      rw [State.commandDue, State.refusedFull, full, Bool.or_true]
    rw [exec_send_of checked due, State.runSend, if_pos full, State.finishStatus_eq]
  all_goals rw [exec_send_of checked (State.commandDue_of_turn turn _), State.runSend]
  case out => rw [if_neg room, if_pos (by rw [out]; rfl), State.finishStatus_eq]
  case plain =>
    subst plain
    rw [if_neg (by simp), if_neg (by rw [live]; decide), if_neg (by simp), State.finishStatus_eq]
    rfl
  case down =>
    rw [if_neg room, if_neg (by rw [live]; decide), if_pos confirms, State.runConfirm, if_pos down, State.finishCommand_eq]
    rfl
  case waits =>
    rw [if_neg room, if_neg (by rw [live]; decide), if_pos confirms, State.runConfirm, if_neg up, State.waitCommand_eq]
    rfl

/-! ### BARRIER -/

/-- Settles O29: full, alone in the list, or waiting. -/
theorem barrierRuns : Obligations.BarrierRuns := by
  unfold Obligations.BarrierRuns
  intro s checked
  have only : s.engine.openList.all Entry.isTaking = true ↔ ∀ e ∈ s.engine.openList, e.state = .taking := by
    simp [Entry.isTaking]
  dsimp only
  rw [← State.longFull_iff, ← only, exec_barrier_of checked, State.runBarrier]
  refine ⟨fun full => ?full, fun room alone => ?alone, fun room others => ?waits⟩
  case full => rw [if_pos full, State.finishStatus_eq]
  case alone => rw [if_neg room, if_pos alone, State.finishCommand_eq]
  case waits => rw [if_neg room, if_neg others, State.waitCommand_eq]

/-! ### LINK_START and LINK_STOP -/

/-- The comparison of R84 and the end of an execution step do not touch each other. -/
theorem State.reportLink_finishCommand (s : State) (kind : EntryKind) (c : Completion) :
    s.reportLink.finishCommand kind c = (s.finishCommand kind c).reportLink := by
  cases h : s.ring.changed
  · rw [State.reportLink_same h, State.reportLink_same (s := s.finishCommand kind c) h]
  · rw [State.reportLink_changed h, State.reportLink_changed (s := s.finishCommand kind c) h]
    rfl

/-- Settles O26: LINK_START from OFF and WITHDRAWN, and in any other state. -/
theorem linkStartRuns : Obligations.LinkStartRuns := by
  unfold Obligations.LinkStartRuns
  intro s o checked
  dsimp only
  rw [← State.linkDown_iff, exec_linkStart_of checked, State.runLinkStart]
  refine ⟨fun down => ?starts, fun up => ?busy⟩
  case starts =>
    have own : setMark 0 o.ownAddress = 1#32 <<< o.ownAddress.toNat := BitVec.zero_or
    rw [if_pos down, State.startLink, State.finishStatus, State.reportLink_finishCommand, State.finishCommand_eq,
      Ring.start, own]
    rfl
  case busy => rw [if_neg up, State.finishStatus_eq]

/-- A LINK_STOP that is carried out hands the stop to the ring controller while its entry waits (R141). -/
theorem exec_linkStop_room (checked : s.engine.checked = some .linkStop) (room : ¬ s.longFull = true)
    (on : s.ring.link ≠ .off) : exec .linkStop s = .next s.waitCommand.stopLink.reportLink := by
  rw [exec_linkStop_of checked, State.runLinkStop, if_neg room, if_neg on]

section
variable (go : s.ring.stopRequest = false)
include go

/-- From LISTEN, MEMBER and WITHDRAWN the link reaches OFF at once (R86, R87). -/
theorem State.stopLink_silent (link : s.ring.link = .listen ∨ s.ring.link = .member ∨ s.ring.link = .withdrawn) :
    s.stopLink = s.reachOff := by
  rcases link with link | link | link <;> simp only [State.stopLink, go, link, Bool.false_eq_true, if_false]

/-- In JOINING and PASSING the stop stands while a frame is in flight (R86). -/
theorem State.stopLink_answering (link : s.ring.link = .joining ∨ s.ring.link = .passing) :
    s.stopLink = if s.transmitting then s.standStop else s.reachOff := by
  rcases link with link | link <;> simp only [State.stopLink, go, link, Bool.false_eq_true, if_false]

theorem State.stopLink_holding (link : s.ring.link = .holding) : s.stopLink =
    if s.transmitting then s.standStop.forbidSnapshots
    else if s.ring.alone then s.reachOff
    else (s.standStop.forbidSnapshots).await (some (Waiting.toToken s.line.waiting)) := by
  simp only [State.stopLink, go, link, Bool.false_eq_true, if_false]

theorem State.stopLink_inviting (link : s.ring.link = .inviting) : s.stopLink =
    if s.transmitting then s.standStop
    else if s.ring.alone then s.reachOff
    else s.standStop.await (some s.line.stopTokenAfterInvite) := by
  simp only [State.stopLink, go, link, Bool.false_eq_true, if_false]

end

/-- Settles O27: LINK_STOP by the link state, and by whether a frame of the part is in flight (R86, R141, R142). -/
theorem linkStopRuns : Obligations.LinkStopRuns := by
  unfold Obligations.LinkStopRuns
  intro s checked
  dsimp only
  rw [← State.longFull_iff, ← State.transmitting_iff]
  refine ⟨fun full => ?full, fun room off => ?off, fun room on stop => ?stands, fun go link => ?silent,
    fun go link idle => ?answering, fun go link idle alone => ?alone, fun go link busy => ?busy,
    fun go link busy => ?busyHolding, fun go link idle others => ?holding, fun go link idle others => ?inviting⟩
  case full => rw [exec_linkStop_of checked, State.runLinkStop, if_pos full, State.finishStatus_eq]
  case off => rw [exec_linkStop_of checked, State.runLinkStop, if_neg room, if_pos off, State.finishCommand_eq]
  case stands =>
    rw [exec_linkStop_room checked room on, State.stopLink, if_pos (show s.waitCommand.ring.stopRequest = true from stop),
      State.waitCommand_eq]
  all_goals
    obtain ⟨room, go⟩ := go
    have free : s.waitCommand.ring.stopRequest = false := go
    rw [exec_linkStop_room checked room (by rintro off; simp [off] at link)]
  case silent => rw [State.stopLink_silent free link, State.waitCommand_eq]
  case answering =>
    rw [State.stopLink_answering free link, if_neg (show ¬ s.waitCommand.transmitting = true from idle), State.waitCommand_eq]
  case alone =>
    have idle : ¬ s.waitCommand.transmitting = true := idle
    have alone : s.waitCommand.ring.alone = true := alone
    rcases link with link | link
    · rw [State.stopLink_holding free link, if_neg idle, if_pos alone, State.waitCommand_eq]
    · rw [State.stopLink_inviting free link, if_neg idle, if_pos alone, State.waitCommand_eq]
  case busy =>
    have busy : s.waitCommand.transmitting = true := busy
    rw [show s.waitCommand.stopLink = s.waitCommand.standStop by
      rcases link with link | link | link
      · rw [State.stopLink_answering free (.inl link), if_pos busy]
      · rw [State.stopLink_answering free (.inr link), if_pos busy]
      · rw [State.stopLink_inviting free link, if_pos busy], State.waitCommand_eq]
    rfl
  case busyHolding =>
    have busy : s.waitCommand.transmitting = true := busy
    rw [State.stopLink_holding free link, if_pos busy, State.waitCommand_eq]
    rfl
  case holding =>
    have idle : ¬ s.waitCommand.transmitting = true := idle
    have others : ¬ s.waitCommand.ring.alone = true := Bool.eq_false_iff.mp others
    rw [State.stopLink_holding free link, if_neg idle, if_neg others, State.waitCommand_eq]
    rfl
  case inviting =>
    have idle : ¬ s.waitCommand.transmitting = true := idle
    have others : ¬ s.waitCommand.ring.alone = true := Bool.eq_false_iff.mp others
    rw [State.stopLink_inviting free link, if_neg idle, if_neg others, State.waitCommand_eq]
    rfl

/-! ### MAP_READ -/

/-- A read of one owner is made once, and kept (R143). -/
theorem State.readRing_eq (s : State) : s.readRing = { s with
    ring.clash := if s.engine.mapReads.ring = none then false else s.ring.clash
    engine.mapReads.ring := some (s.engine.mapReads.ring.getD s.ring.copy) } := by
  unfold State.readRing
  cases h : s.engine.mapReads.ring with
  | none => rfl
  | some r =>
    simp only [Option.isSome_some, if_true, reduceCtorEq, if_false, Option.getD_some]
    rw [← h]

theorem State.readCounter_eq (s : State) : s.readCounter = { s with
    engine.mapReads.counter := some (s.engine.mapReads.counter.getD s.filingCounter) } := by
  unfold State.readCounter
  cases h : s.engine.mapReads.counter with
  | none => rfl
  | some r =>
    simp only [Option.isSome_some, if_true, Option.getD_some]
    rw [← h]

theorem State.readCursor_eq (s : State) : s.readCursor = { s with
    engine.mapReads.cursor := some (s.engine.mapReads.cursor.getD s.sched.cursor) } := by
  unfold State.readCursor
  cases h : s.engine.mapReads.cursor with
  | none => rfl
  | some r =>
    simp only [Option.isSome_some, if_true, Option.getD_some]
    rw [← h]

/-- With its three reads made the MAP_READ is done (R143). -/
theorem State.endMapRead_done {ring : RingCopy} {counter : Half} {cursor : SlotId}
    (reads : s.engine.mapReads = ⟨some ring, some counter, some cursor⟩) :
    s.endMapRead = s.finishCommand .immediate ⟨.ok, .mapRead ring counter cursor⟩ := by
  rw [State.endMapRead, reads]

/-- Until then it goes on (R143). -/
theorem State.endMapRead_wait
    (missing : s.engine.mapReads.ring = none ∨ s.engine.mapReads.counter = none ∨ s.engine.mapReads.cursor = none) :
    s.endMapRead = s := by
  unfold State.endMapRead
  split
  · next ring counter cursor => rw [ring, counter, cursor] at missing; simp at missing
  · rfl

/-- Settles O28: the four rows of MAP_READ, each by whether it makes the last read. -/
theorem mapReadRuns : Obligations.MapReadRuns := by
  unfold Obligations.MapReadRuns
  intro s checked
  have copy : s.ring.copy = { link := s.ring.link, condition := s.ring.condition, liveMap := s.ring.liveMap
                              successor := s.ring.successor, ownAddress := s.ring.ownAddress
                              rotation := s.ring.rotation, unheard := s.ring.unheard, clash := s.ring.clash } := rfl
  dsimp only
  rw [← copy]
  refine ⟨?rest, ?ring, ?table, ?scheduler⟩ <;> rw [exec_mapRead_of checked, State.readPart]
  case rest =>
    rw [State.readRing_eq, State.readCounter_eq, State.readCursor_eq, State.endMapRead_done rfl, State.finishCommand_eq]
  case ring =>
    rw [State.readRing_eq]
    by_cases last : s.engine.mapReads.counter ≠ none ∧ s.engine.mapReads.cursor ≠ none
    · rw [if_pos last]
      obtain ⟨counter, hc⟩ := Option.ne_none_iff_exists'.mp last.1
      obtain ⟨cursor, hk⟩ := Option.ne_none_iff_exists'.mp last.2
      rw [State.endMapRead_done (ring := s.engine.mapReads.ring.getD s.ring.copy) (counter := counter) (cursor := cursor)
        (by rw [← hc, ← hk]), State.finishCommand_eq, hc, hk]
      rfl
    · rw [if_neg last, State.endMapRead_wait (by simp only; tauto)]
  case table =>
    rw [State.readCounter_eq]
    split
    · next last =>
      obtain ⟨ring, hr⟩ := Option.ne_none_iff_exists'.mp last.1
      obtain ⟨cursor, hk⟩ := Option.ne_none_iff_exists'.mp last.2
      rw [State.endMapRead_done (ring := ring) (counter := s.engine.mapReads.counter.getD s.filingCounter) (cursor := cursor)
        (by rw [← hr, ← hk]), State.finishCommand_eq, hr, hk]
      rfl
    · next more => rw [State.endMapRead_wait (by simp only; tauto)]
  case scheduler =>
    rw [State.readCursor_eq]
    split
    · next last =>
      obtain ⟨ring, hr⟩ := Option.ne_none_iff_exists'.mp last.1
      obtain ⟨counter, hc⟩ := Option.ne_none_iff_exists'.mp last.2
      rw [State.endMapRead_done (ring := ring) (counter := counter) (cursor := s.engine.mapReads.cursor.getD s.sched.cursor)
        (by rw [← hr, ← hc]), State.finishCommand_eq, hr, hc]
      rfl
    · next more => rw [State.endMapRead_wait (by simp only; tauto)]

end Sys2Proof.Machine
end

section
/-!
PROOFS. The host port and the resets: what each register reads and takes, and what the resets leave (chapter 9).
-/
namespace Sys2Proof.Machine

variable {s : State}

/-! ### The resets -/

/-- A supply rise, and a RESET pulse long enough to be sure of, reset the part (R168). -/
theorem exec_powerOnReset_sure {cause : ResetCause} (sure : cause = .supplyRise ∨ ∃ n, 10 ≤ n ∧ cause = .pinLow n)
    (s : State) : exec (.powerOnReset cause) s = .next s.powerOn := by
  rcases sure with rfl | ⟨n, long, rfl⟩
  · rfl
  · rw [exec_powerOnReset, execPowerOnReset, if_pos (show Config.resetPulse ≤ n from long)]

/-- A shorter pulse draws the free value, which says whether it resets (R168, log 11). -/
theorem exec_powerOnReset_short {n : Nat} (short : n < 10) (s : State) : exec (.powerOnReset (.pinLow n)) s =
    if Config.shortPulseResets s.freeCount then .next s.drawFree.powerOn
    else .next s.drawFree.cutFrame.lowerReset := by
  rw [exec_powerOnReset, execPowerOnReset, if_neg (show ¬ Config.resetPulse ≤ n from Nat.not_le_of_lt short)]

/-- Settles O5: every block as at power-on. -/
theorem powerOnReset : Obligations.PowerOnReset := by
  unfold Obligations.PowerOnReset
  intro s cause sure
  refine ⟨_, exec_powerOnReset_sure sure s, fun k => ?slot, rfl, rfl⟩
  case slot =>
    show (Vector.replicate 64 Slot.powerOn)[k] = _
    rw [Fin.getElem_fin, Vector.getElem_replicate]
    rfl

/-- Settles O7: the bit that is a device reset, and what it leaves. -/
theorem deviceReset : Obligations.DeviceReset := by
  unfold Obligations.DeviceReset
  intro s high
  refine ⟨fun v bit => ?write, ?reset⟩
  case write => rw [hostWrite, if_pos rfl, controlWrite, if_pos bit]
  case reset =>
    rw [exec_deviceReset_high high, State.afterDeviceReset, high]
    rfl

/-- Settles O8: the reset of the engine, and the same write's run bit after it. -/
theorem engineReset : Obligations.EngineReset := by
  unfold Obligations.EngineReset
  intro s high
  have stopped : s.afterEngineReset.engine.state = .stopped := rfl
  refine ⟨s.afterEngineReset, ?reset, ?run, rfl⟩
  case reset => rw [exec_engineReset_high high, State.controlRun, stopped, if_neg (by decide)]
  case run =>
    rw [exec_engineReset_high high, exec_runSet, execRunSet,
      State.hostAccess_high (show s.afterEngineReset.resetLow = false from high)]

/-! ### The pins -/

/-- While RESET is low no register write does anything (R168). -/
theorem RegisterWrite.ignored {c : Instr} (write : RegisterWrite c) (low : s.resetLow = true) : exec c s = .next s := by
  cases write <;> exact State.hostAccess_low low

/-- Settles O6: the pins, and what a low RESET keeps back, does and ends. -/
theorem resetPin : Obligations.ResetPin := by
  unfold Obligations.ResetPin
  intro s
  refine ⟨fun x flies => ?slotFrame, fun f free flies => ?ringFrame, fun free idle => ?noFrame, fun high => ?high,
    fun low => ⟨?lde, ?ltx, ?notify, fun o w => ?reads, fun c write => write.ignored low, ?take, ?completion, ?notice,
      ?slotNotice⟩, rfl, fun cause sure => ⟨_, exec_powerOnReset_sure sure s, rfl, rfl, rfl⟩,
    fun n short => ⟨fun resets => ?resets, fun stays busy => ?cut, fun stays idle => ?kept⟩⟩
  case slotFrame => rw [State.frameInFlight, flies]; rfl
  case ringFrame => rw [State.frameInFlight, free, flies]; rfl
  case noFrame => rw [State.frameInFlight, free, idle]; rfl
  case high =>
    refine ⟨?_, fun f flies => ?_, fun idle => ?_⟩
    · simp [State.ldePin, high, Option.isSome_iff_ne_none]
    · simp [State.ltxPin, high, flies]
    · simp [State.ltxPin, high, idle]
  case lde => rw [State.ldePin, low]; rfl
  case ltx => rw [State.ltxPin, low, Bool.true_or]
  case notify => rw [State.notifyPin, low, Bool.true_or]
  case reads => rw [State.readRegister, if_pos low]
  case take => rw [exec_takeBegin, execTakeBegin, if_neg (by simp [State.canTake, low])]
  case completion => rw [exec_completionWrite, execCompletionWrite, if_neg (by simp [State.completionDue, low])]
  case notice =>
    rw [exec_linkNoticeWrite, execLinkNoticeWrite]
    split
    · rw [if_neg (by simp [State.linkNoticeDue, low])]
    · rfl
  case slotNotice => rw [exec_readForNotice, execReadForNotice, if_neg (by simp [State.noticeDue, low])]
  case resets => rw [exec_powerOnReset_short short, if_pos resets]; rfl
  case cut =>
    rw [exec_powerOnReset_short short, stays, if_neg (by decide), State.cutFrame,
      if_pos (show s.drawFree.transmitting = true from busy)]
    rfl
  case kept =>
    rw [exec_powerOnReset_short short, stays, if_neg (by decide), State.cutFrame,
      if_neg (show ¬ s.drawFree.transmitting = true from Bool.eq_false_iff.mp idle)]
    rfl

/-! ### Writes on the host bus (R160, R162) -/

/-- A byte of the window belongs to the register whose four bytes hold it (R160). -/
theorem registerByte_eq (x : Nat) : registerByte x = registerOffsets.any fun r => decide (r ≤ x ∧ x < r + 4) := by
  have aligned : ∀ r ∈ registerOffsets, r % 4 = 0 := by decide
  rw [registerByte, List.contains_eq_any_beq, Bool.eq_iff_iff, List.any_eq_true, List.any_eq_true]
  refine exists_congr fun r => and_congr_right fun mem => ?_
  have := aligned r mem
  rw [beq_iff_eq, decide_eq_true_eq]
  omega

/-- A write that no register takes is REGISTER_WRITE_OTHER (R160). -/
theorem hostWrite_other {o : Nat} {w : AccessWidth} (wf : isOtherWrite o w = true) (v : Word) :
    hostWrite o w v = .registerWriteOther o w := by
  unfold hostWrite
  split
  · next word =>
    subst word
    have none : o ∉ writableOffsets := by simpa [isOtherWrite] using (Bool.and_eq_true_iff.mp wf).2
    split
    case h_13 => rfl
    all_goals exact absurd (by decide) none
  · rfl

/-- Settles O9: the row of each write, and the sticky flag of the others. -/
theorem hostWrites : Obligations.HostWrites := by
  unfold Obligations.HostWrites
  intro s v high
  refine ⟨fun device => ?device, fun only engine => ?engine, fun only free set => ?set, fun only free clear => ?clear, rfl, rfl,
    rfl, rfl, rfl, rfl, rfl, rfl, rfl, rfl, rfl, fun o w wf => ⟨hostWrite_other wf v, ?other⟩⟩
  case device => rw [hostWrite, if_pos rfl, controlWrite, if_pos device]
  case engine => rw [hostWrite, if_pos rfl, controlWrite, if_neg (Bool.eq_false_iff.mp only), if_pos engine]
  case set =>
    rw [hostWrite, if_pos rfl, controlWrite, if_neg (Bool.eq_false_iff.mp only), if_neg (Bool.eq_false_iff.mp free),
      if_pos set]
  case clear =>
    rw [hostWrite, if_pos rfl, controlWrite, if_neg (Bool.eq_false_iff.mp only), if_neg (Bool.eq_false_iff.mp free),
      if_neg (Bool.eq_false_iff.mp clear)]
  case other =>
    have wf : isOtherWrite o w = true := wf
    have bytes : addressesRegister o w = (List.range (AccessWidth.bytes w)).any fun i =>
        registerOffsets.any fun r => decide (r ≤ o + i ∧ o + i < r + 4) := by
      simp only [addressesRegister, registerByte_eq]
    rw [exec_registerWriteOther, execRegisterWriteOther, State.hostAccess_high high, wf, Bool.true_and]
    rw [show [0x00, 0x04, 0x08, 0x10, 0x14, 0x18, 0x1C, 0x20, 0x28, 0x2C, 0x30, 0x34, 0x38, 0x3C, 0x40] = registerOffsets
      from rfl, ← bytes]
    cases addressesRegister o w with
    | true => rw [if_pos rfl, Bool.or_true]; rfl
    | false => rw [if_neg (by decide), Bool.or_false]

/-! ### The run bit (R109, R110, R148) -/

/-- Each check of a run as the model makes it (the table of R109). -/
theorem State.checkFails_iff (s : State) :
    (s.checkFails .cmdBase ↔ s.regs.cmdBaseLo.toNat % 64 ≠ 0) ∧
    (s.checkFails .cmdSize ↔ (!s.regs.cmdSizeValid) = true) ∧
    (s.checkFails .cmdIndex ↔ s.regs.cmdRingSize ≤ s.regs.cmdTail ∨ s.regs.cmdRingSize ≤ s.engine.head) ∧
    (s.checkFails .evtBase ↔ s.regs.evtBaseLo.toNat % 32 ≠ 0) ∧
    (s.checkFails .evtSize ↔ (!s.regs.evtSizeValid) = true) ∧
    (s.checkFails .evtIndex ↔ s.regs.evtRingSize ≤ s.regs.evtHead ∨ s.regs.evtRingSize ≤ s.events.tail) := by
  simp only [State.checkFails, Registers.cmdSizeValid, Registers.evtSizeValid, Registers.cmdRingSize,
    Registers.evtRingSize, Bool.not_eq_true', Bool.and_eq_false_iff, decide_eq_false_iff_not, Nat.dvd_iff_mod_eq_zero]
  exact ⟨trivial, by omega, by rw [not_and_or, Nat.not_lt, Nat.not_lt], trivial, by omega,
    by rw [not_and_or, Nat.not_lt, Nat.not_lt]⟩

/-- The first failing check is the cause a refused run reports (R109). -/
theorem State.runCheck_eq_some {c : ConfigCause} (fails : s.checkFails c)
    (first : ∀ d, d.code < c.code → ¬ s.checkFails d) : s.runCheck = some c := by
  obtain ⟨h1, h2, h3, h4, h5, h6⟩ := s.checkFails_iff
  have before := fun d (below : d.code < c.code) => first d below
  unfold State.runCheck
  cases c with
  | cmdBase => rw [if_pos (h1.mp fails)]
  | cmdSize => rw [if_neg (mt h1.mpr (before .cmdBase (by decide))), if_pos (h2.mp fails)]
  | cmdIndex =>
    rw [if_neg (mt h1.mpr (before .cmdBase (by decide))), if_neg (mt h2.mpr (before .cmdSize (by decide))),
      if_pos (h3.mp fails)]
  | evtBase =>
    rw [if_neg (mt h1.mpr (before .cmdBase (by decide))), if_neg (mt h2.mpr (before .cmdSize (by decide))),
      if_neg (mt h3.mpr (before .cmdIndex (by decide))), if_pos (h4.mp fails)]
  | evtSize =>
    rw [if_neg (mt h1.mpr (before .cmdBase (by decide))), if_neg (mt h2.mpr (before .cmdSize (by decide))),
      if_neg (mt h3.mpr (before .cmdIndex (by decide))), if_neg (mt h4.mpr (before .evtBase (by decide))),
      if_pos (h5.mp fails)]
  | evtIndex =>
    rw [if_neg (mt h1.mpr (before .cmdBase (by decide))), if_neg (mt h2.mpr (before .cmdSize (by decide))),
      if_neg (mt h3.mpr (before .cmdIndex (by decide))), if_neg (mt h4.mpr (before .evtBase (by decide))),
      if_neg (mt h5.mpr (before .evtSize (by decide))), if_pos (h6.mp fails)]

theorem State.runCheck_none_of (passes : ∀ c, ¬ s.checkFails c) : s.runCheck = none := by
  obtain ⟨h1, h2, h3, h4, h5, h6⟩ := s.checkFails_iff
  rw [State.runCheck, if_neg (mt h1.mpr (passes _)), if_neg (mt h2.mpr (passes _)), if_neg (mt h3.mpr (passes _)),
    if_neg (mt h4.mpr (passes _)), if_neg (mt h5.mpr (passes _)), if_neg (mt h6.mpr (passes _))]

/-- Settles O10: the run bit in each engine state. -/
theorem runBit : Obligations.RunBit := by
  unfold Obligations.RunBit
  intro s high
  rw [exec_runSet, exec_runClear, execRunSet, execRunClear, State.hostAccess_high high, State.hostAccess_high high]
  refine ⟨fun stopped passes => ?enters, fun c stopped fails first => ?refused, fun stopped => ?stays, fun running => ?runs,
    fun faulted => ?faulted⟩
  case enters => rw [State.controlRun, stopped, if_pos rfl, State.runCheck_none_of passes]; rfl
  case refused => rw [State.controlRun, stopped, if_pos rfl, State.runCheck_eq_some fails first]; rfl
  case stays => rw [State.controlRun, stopped, if_neg (by decide)]
  case runs =>
    refine ⟨by rw [State.controlRun, running]; rfl, _, ?_, rfl, ?_⟩
    · rw [State.controlRun, running, if_neg (by decide)]; rfl
    · rw [exec_takeBegin, execTakeBegin, if_neg (by simp [State.canTake])]
  case faulted =>
    rw [State.controlRun, State.controlRun, faulted]
    exact ⟨rfl, rfl⟩

/-! ### Reads on the host bus (R160 to R164) -/

/-- A word masked to its low bytes (R160). -/
theorem and_lowBytes (x : Word) {n : Nat} (n_le : n ≤ 32) :
    x &&& BitVec.ofNat 32 (2 ^ n - 1) = (x.extractLsb' 0 n).setWidth 32 := by
  refine BitVec.eq_of_toNat_eq ?_
  have bound : 2 ^ n ≤ 2 ^ 32 := Nat.pow_le_pow_right (by decide) n_le
  have pos : 0 < 2 ^ n := Nat.two_pow_pos n
  rw [BitVec.toNat_and, BitVec.toNat_ofNat, Nat.mod_eq_of_lt (by omega), Nat.and_two_pow_sub_one_eq_mod,
    BitVec.toNat_setWidth, BitVec.extractLsb'_toNat, Nat.shiftRight_zero,
    Nat.mod_eq_of_lt (Nat.lt_of_lt_of_le (Nat.mod_lt _ pos) bound)]

/-- A full aligned read gives the register at the offset, and 0 where there is none (R160). -/
theorem readRegister_word (high : s.resetLow = false) {o : Nat} (aligned : o % 4 = 0) :
    s.readRegister o .word = some ((s.registerAt o).getD 0) := by
  rw [State.readRegister, if_neg (by rw [high]; decide), if_neg (not_not_intro aligned)]
  have all := and_lowBytes ((s.registerAt o).getD 0) (n := 32) (Nat.le_refl 32)
  rw [BitVec.setWidth_eq] at all
  exact congrArg some (all.trans (by simp))

/-- STATUS field by field (R164, Table 10-1). -/
theorem statusWord_fields (s : State) :
    (s.statusWord.extractLsb' 0 4).toNat = s.engine.state.code ∧
    (s.statusWord.extractLsb' 4 4).toNat = s.engine.fault.code ∧
    (s.statusWord.extractLsb' 8 4).toNat = s.engine.fault.causeCode ∧
    (s.statusWord.extractLsb' 12 4).toNat = s.ring.condition.code.toNat ∧
    s.statusWord.getLsbD 16 = s.regs.indexRefused ∧ s.statusWord.extractLsb' 17 15 = 0 := by
  have state : s.engine.state.code ≤ 2 := by cases s.engine.state <;> decide
  have fault : s.engine.fault.code ≤ 3 := by cases s.engine.fault <;> simp [FaultCode.code]
  have cause : s.engine.fault.causeCode ≤ 6 := by
    rcases s.engine.fault with _ | c | _ | _
    case badConfig => cases c <;> decide
    all_goals decide
  have condition : s.ring.condition.code.toNat ≤ 4 := by cases s.ring.condition <;> decide
  have flag : s.regs.indexRefused.toNat ≤ 1 := Bool.toNat_le _
  have word : s.statusWord.toNat = s.engine.state.code + 16 * s.engine.fault.code + 256 * s.engine.fault.causeCode
      + 4096 * s.ring.condition.code.toNat + 65536 * s.regs.indexRefused.toNat := by
    rw [State.statusWord, BitVec.toNat_ofNat]
    omega
  have bit : s.statusWord.getLsbD 16 = decide (s.regs.indexRefused.toNat = 1) := by
    rw [BitVec.getLsbD, Nat.testBit_eq_decide_div_mod_eq, word]
    exact decide_eq_decide.mpr (by omega)
  refine ⟨?_, ?_, ?_, ?_, ?_, BitVec.eq_of_toNat_eq ?_⟩
  case refine_5 => rw [bit]; cases s.regs.indexRefused <;> rfl
  all_goals
    rw [BitVec.extractLsb'_toNat, Nat.shiftRight_eq_div_pow, word]
  case refine_6 =>
    show _ = 0
    omega
  all_goals omega

/-- Settles O12: every register, the narrow reads, the offsets that read 0, and the write of STATUS. -/
theorem registerReads : Obligations.RegisterReads := by
  unfold Obligations.RegisterReads
  intro s high
  have word : ∀ o v, o % 4 = 0 → s.registerAt o = some v → s.readRegister o .word = some v := fun o v aligned here => by
    rw [readRegister_word high aligned, here]; rfl
  refine ⟨word _ _ rfl rfl, ?control, ⟨_, word _ _ rfl rfl, statusWord_fields s⟩, rfl, rfl, rfl, rfl,
    fun c => ⟨rfl, rfl⟩, rfl, rfl, rfl, rfl, rfl, rfl, rfl, rfl, rfl, rfl, rfl, rfl, rfl, rfl, rfl, rfl,
    word _ _ rfl rfl, word _ _ rfl rfl, word _ _ rfl rfl, word _ _ rfl rfl, word _ _ rfl rfl, word _ _ rfl rfl,
    word _ _ rfl rfl, word _ _ rfl rfl, word _ _ rfl rfl, word _ _ rfl rfl, word _ _ rfl rfl, word _ _ rfl rfl,
    fun o w aligned => ?narrow, fun o w absent => ?absent, fun v => ?status⟩
  case control =>
    rw [word 0x04 _ rfl rfl, State.controlWord]
    cases s.engine.run <;> rfl
  case narrow =>
    have aligned : o % 4 = 0 := Nat.mod_eq_zero_of_dvd aligned
    refine ⟨_, readRegister_word high aligned, ?_⟩
    cases w with
    | word => exact readRegister_word high aligned
    | byte | half =>
      rw [State.readRegister, if_neg (by rw [high]; decide), if_neg (not_not_intro aligned)]
      exact congrArg some (and_lowBytes _ (by decide))
  case absent =>
    rw [State.readRegister, if_neg (by rw [high]; decide)]
    split
    · rfl
    · next aligned =>
      have missing : s.registerAt o = none := by
        unfold State.registerAt
        split
        case h_16 => rfl
        all_goals omega
      rw [missing, Option.getD_none]
      exact congrArg some BitVec.zero_and
  case status => rw [exec_statusWrite, execStatusWrite, State.hostAccess_high high]; rfl

/-! ### Writes of the ring registers (R106, R107, R147) -/

/-- Settles O13: the geometry registers, and CMD_TAIL. -/
theorem ringRegisterWrites : Obligations.RingRegisterWrites := by
  unfold Obligations.RingRegisterWrites
  intro s v high
  have valid : s.regs.cmdSizeValid = true ↔ 3 ≤ s.regs.cmdSize.toNat ∧ s.regs.cmdSize.toNat ≤ 10 := by
    simp [Registers.cmdSizeValid]
  have geometry : ∀ reg, exec (.ringGeometryWrite reg v) s =
      .next (if s.geometryOpen then s.withRegs (s.regs.setGeometry reg v) else s.setRefused) := fun reg =>
    State.hostAccess_high high
  have tail : exec (.cmdTailWrite v) s =
      .next (if s.tailTaken v.toNat then s.withRegs { s.regs with cmdTail := v.toNat } else s.setRefused) :=
    State.hostAccess_high high
  dsimp only
  rw [← valid, tail]
  refine ⟨fun stopped empty => ?taken, fun closed reg => ?refused, fun ok fits => ?tail, fun ok large => ?large,
    fun bad own => ?own, fun bad other => ?other⟩
  case taken =>
    have isOpen : s.geometryOpen = true := by simp [State.geometryOpen, stopped, empty]
    simp only [geometry, isOpen, if_true]
    exact ⟨rfl, rfl, rfl, rfl, rfl, rfl⟩
  case refused =>
    have shut : s.geometryOpen = false := by
      rw [← Bool.not_eq_true]
      simpa [State.geometryOpen, Decidable.imp_iff_not_or] using closed
    rw [geometry, shut]; rfl
  case tail => rw [State.tailTaken, if_pos ok, if_pos (decide_eq_true (show v.toNat < s.regs.cmdRingSize from fits))]; rfl
  case large =>
    rw [State.tailTaken, if_pos ok,
      if_neg (mt of_decide_eq_true (show ¬ v.toNat < s.regs.cmdRingSize from Nat.not_lt_of_le large))]
    rfl
  case own =>
    rw [State.tailTaken, if_neg bad, if_pos (decide_eq_true own), own]
    rfl
  case other => rw [State.tailTaken, if_neg bad, if_neg (by simpa using other)]; rfl

/-- A taken EVT_HEAD value and one that is not (R147). -/
theorem exec_evtHeadWrite_eq (high : s.resetLow = false) (v : Word) : exec (.evtHeadWrite v) s =
    .next (if s.headTaken v.toNat then (s.withRegs { s.regs with evtHead := v.toNat }).lookForNotice else s.setRefused) :=
  State.hostAccess_high high

theorem State.lookForNotice_unconsumed (s : State) : s.lookForNotice.unconsumed = s.unconsumed := by
  rw [State.lookForNotice_eq]; rfl

/-- Settles O14: the head on its cyclic run to the tail, and what it releases. -/
theorem eventHeadWrites : Obligations.EventHeadWrites := by
  unfold Obligations.EventHeadWrites
  intro s v high
  have valid : s.eventIndicesValid = true ↔ 5 ≤ s.regs.evtSize.toNat ∧ s.regs.evtSize.toNat ≤ 12 ∧
      s.regs.evtHead < 2 ^ s.regs.evtSize.toNat ∧ s.events.tail < 2 ^ s.regs.evtSize.toNat := by
    simp only [State.eventIndicesValid, Registers.evtSizeValid, Bool.and_eq_true, decide_eq_true_eq, and_assoc]
    rfl
  have distance : s.eventIndicesValid = true → ∀ i,
      (i + 2 ^ s.regs.evtSize.toNat - s.regs.evtHead) % 2 ^ s.regs.evtSize.toNat =
        ringDistance s.regs.evtRingSize s.regs.evtHead i := fun ok i => by
    rw [ringDistance, Registers.evtRingSize, Nat.mod_eq_of_lt (valid.mp ok).2.2.1]
  have below : s.unconsumed < s.regs.evtRingSize := ringDistance_lt (Nat.two_pow_pos _)
  dsimp only
  rw [← valid, exec_evtHeadWrite_eq high]
  refine ⟨fun ok => ?counts, fun ok fits near => ?taken, fun ok far => ?refused, fun bad own => ?own, fun bad other => ?other⟩
  case counts =>
    rw [distance ok]
    refine ⟨rfl, ?_⟩
    show s.regs.evtRingSize - 1 - s.unconsumed + s.unconsumed + 1 = s.regs.evtRingSize
    omega
  case taken =>
    rw [distance ok, distance ok] at near
    obtain ⟨-, -, head, tail⟩ := valid.mp ok
    have path : ringDistance s.regs.evtRingSize s.regs.evtHead v.toNat +
        ringDistance s.regs.evtRingSize v.toNat s.events.tail = s.unconsumed :=
      ringDistance_le_of_between head fits tail near
    have taken : s.headTaken v.toNat = true := by
      rw [State.headTaken, if_pos ok, decide_eq_true (show v.toNat < s.regs.evtRingSize from fits), Bool.true_and]
      exact decide_eq_true near
    rw [if_pos taken, distance ok]
    refine ⟨_, rfl, rfl, ?_, ?_⟩
    · rw [State.lookForNotice_unconsumed]
      show ringDistance s.regs.evtRingSize v.toNat s.events.tail + _ = _
      omega
    · rw [State.freeEntries, State.lookForNotice_unconsumed, State.lookForNotice_regs]
      show s.regs.evtRingSize - 1 - ringDistance s.regs.evtRingSize v.toNat s.events.tail =
        s.regs.evtRingSize - 1 - s.unconsumed + _
      omega
  case refused =>
    rw [distance ok, distance ok] at far
    have refused : ¬ s.headTaken v.toNat = true := by
      rw [State.headTaken, if_pos ok, Bool.and_eq_true, decide_eq_true_eq, decide_eq_true_eq]
      rintro ⟨fits, near⟩
      exact far.elim (Nat.not_le_of_lt fits) (Nat.not_lt_of_le near)
    rw [if_neg refused]; rfl
  case own => rw [State.headTaken, if_neg bad, if_pos (decide_eq_true own), own]; rfl
  case other => rw [State.headTaken, if_neg bad, if_neg (by simpa using other)]; rfl

end Sys2Proof.Machine
end

section
/-!
PROOFS. The queue engine's takes: how one begins and ends, the checks of a record, and the records the host writes for
the commands (R111 to R114, R119 to R121, R170).
-/
namespace Sys2Proof.Machine

variable {s : State}

/-! ### Takes (R111, R112, R120, R121) -/

/-- Settles O15: the take that may begin, and the wait. -/
theorem takeBegins : Obligations.TakeBegins := by
  unfold Obligations.TakeBegins
  intro s
  rw [exec_takeBegin, execTakeBegin]
  refine ⟨fun may => ?begins, fun not => ?waits⟩
  case begins =>
    rw [if_pos (s.rowDue_takeBegin.mp may)]
    rfl
  case waits => rw [if_neg (mt s.rowDue_takeBegin.mpr not)]

/-- The answer for the read in flight ends the take (R112). -/
theorem exec_takeEnd_of {read : CommandRead} (reading : s.engine.cmdRead = some read) (r : List Byte) :
    exec (.takeEnd read.access r) s = .next (s.endTake read r) := by
  rw [exec_takeEnd, execTakeEnd, State.reading, reading]
  exact congrArg _ (if_pos (decide_eq_true rfl))

/-- A take that ends without a record removes the entry that is not done taking (R120, R121). -/
theorem Engine.dropTaking_eq (e : Engine) : e.dropTaking = { e with
    openList := releaseBarrier (e.openList.filter fun x => decide (x.state ≠ .taking))
    credits := e.credits - 1, cmdRead := none } := by
  have same : (fun x : Entry => !x.isTaking) = fun x => decide (x.state ≠ .taking) := by
    funext x
    rw [Entry.isTaking, decide_not]
  rw [Engine.dropTaking, same]

/-- The entry of a refused record is done at once with the record's tag and code (R113). -/
theorem finishTaking_readInto (r : List Byte) (c : Completion) (l : List Entry) :
    finishTaking .immediate c (readInto r none l) = l.map fun e =>
      if e.state = .taking then
        { e with tag := recHalf r 2, code := recByte r 0, slot := none, kind := .immediate, state := .done c }
      else e := by
  rw [finishTaking, readInto, List.map_map]
  refine List.map_congr_left fun e _ => ?_
  by_cases taking : e.state = .taking <;> simp [Entry.isTaking, taking, Entry.fromRecord]
  rfl

/-- The entry of an accepted record keeps its place with the record's fields (R115). -/
theorem readInto_eq (r : List Byte) (slot : Option SlotId) (l : List Entry) :
    readInto r slot l = l.map fun e =>
      if e.state = .taking then { e with tag := recHalf r 2, code := recByte r 0, slot := slot } else e := by
  refine List.map_congr_left fun e _ => ?_
  by_cases taking : e.state = .taking <;> simp [Entry.isTaking, taking, Entry.fromRecord]
  rfl

/-- Settles O16: the record refused, accepted, or not taken in FAULTED. -/
theorem takeEnds : Obligations.TakeEnds := by
  unfold Obligations.TakeEnds
  intro s read r reading _
  dsimp only
  rw [exec_takeEnd_of reading, State.endTake]
  refine ⟨fun st on wrong => ?refused, fun c on right => ?accepted, fun off => ?faulted⟩
  case refused =>
    rw [if_neg on, State.checkTaken, wrong]
    dsimp only
    rw [Engine.refuseRecord, finishTaking_readInto]
    rfl
  case accepted =>
    rw [if_neg on, State.checkTaken, right]
    dsimp only
    rw [Engine.acceptRecord, readInto_eq]
    cases c <;> rfl
  case faulted => rw [if_pos off, Engine.dropTaking_eq]; rfl

/-- A read that fails, whether the bus says so or the response timer (R120, R121, R166). -/
theorem State.readFailed_eq (s : State) : s.readFailed = { s with
    engine.state := .faulted
    engine.fault := if s.engine.state = .faulted then s.engine.fault else .cqRead
    engine.openList := releaseBarrier (s.engine.openList.filter fun e => e.state ≠ .taking)
    engine.credits := s.engine.credits - 1
    engine.cmdRead := none } := by
  rw [State.readFailed, Engine.dropTaking_eq]
  split
  · next faulted =>
    rw [← faulted]
    rfl
  · rfl

/-- Settles O19: the failing answer, and the missing one. -/
theorem commandReadFails : Obligations.CommandReadFails := by
  unfold Obligations.CommandReadFails
  intro s read reading
  refine ⟨?fails, fun late => ?late⟩
  case fails =>
    rw [exec_cqReadFail, execCqReadFail, if_pos (by simp [State.reading, reading]), State.readFailed_eq]
  case late =>
    have due : s.timeoutDue .commandRead = true := by
      rw [State.timeoutDue, reading]
      exact decide_eq_true late
    rw [exec_busResponseTimeout, execBusResponseTimeout.eq_def, if_pos due, State.readFailed_eq]

/-! ### The checks of a record (R113, R129, R139, R170) -/

/-- The part of the checks after the command code: the slot, the option bits, the operands. -/
theorem checkRecord_of_code {p : Bool} {r : List Byte} {c : CommandCode} (phase : recPhase r = p)
    (check : checkCorrect r = true) (code : commandCode (recByte r 0) = some c) :
    checkRecord p r =
      if c.namesSlot = true ∧ 63 < (recByte r 8).toNat then .error .badSlot
      else if 2 ^ c.optionBits ≤ (recOptions r).toNat then .error .badValue
      else (readOperands c r).elim (.error .badValue) .ok := by
  rw [checkRecord, if_neg (not_not.mpr phase), if_neg (by rw [check]; decide), code]
  simp only [Bool.and_eq_true, decide_eq_true_eq]
  cases readOperands c r <;> rfl

/-- A record with an undefined command code is refused (R113). -/
theorem checkRecord_badCommand {p : Bool} {r : List Byte} (phase : recPhase r = p)
    (check : checkCorrect r = true) (code : commandCode (recByte r 0) = none) :
    checkRecord p r = .error .badCommand := by
  rw [checkRecord, if_neg (not_not.mpr phase), if_neg (by rw [check]; decide), code]

theorem commandCode_eq_some_iff (b : Byte) (c : CommandCode) : commandCode b = some c ↔ c.byte = b :=
  ⟨commandCode_byte, fun same => same ▸ commandCode_byte_eq c⟩

/-- The operands of a group are refused only when it is selected (R129). -/
theorem whenSelected_eq_none {α : Type} (b : Bool) (g : Option α) :
    whenSelected b g = none ↔ b = true ∧ g = none := by
  cases b <;> cases g <;> simp [whenSelected]

/-- Operands refused on a condition are refused exactly on it. -/
theorem ite_none_eq_none {α : Type} {c : Prop} [Decidable c] {v : α} :
    (if c then none else some v) = none ↔ c := by
  by_cases hc : c <;> simp [hc]

theorem readSetup_eq_none (r : List Byte) : readSetup r = none ↔
    8 ≤ (recByte r 16).toNat ∨ 2 ≤ (recByte r 17).toNat ∨ recByte r 23 ≠ 0 ∨ recByte r 27 ≠ 0 :=
  ite_none_eq_none

theorem readBehaviour_eq_none (r : List Byte) : readBehaviour r = none ↔ 8 ≤ (recByte r 18).toNat :=
  ite_none_eq_none

theorem readContent_eq_none (r : List Byte) : readContent r = none ↔ 16 < (recByte r 19).toNat :=
  ite_none_eq_none

theorem readLinkStart_eq_none (r : List Byte) : readLinkStart r = none ↔
    31 < (recByte r 16).toNat ∨ (recHalf r 9).toNat < 10 ∨ 320 < (recHalf r 9).toNat
      ∨ (recByte r 20).toNat < 1 ∨ 15 < (recByte r 20).toNat :=
  ite_none_eq_none

/-- A STORE is refused when a selected group is (R129). -/
theorem readStore_eq_none (r : List Byte) : readStore r = none ↔
    ((recOptions r).getLsbD 0 = true ∧ readSetup r = none) ∨
    ((recOptions r).getLsbD 1 = true ∧ readBehaviour r = none) ∨
    ((recOptions r).getLsbD 2 = true ∧ readContent r = none) := by
  rw [← whenSelected_eq_none, ← whenSelected_eq_none, ← whenSelected_eq_none]
  unfold readStore
  dsimp only
  split
  · next setup behaviour content =>
    refine iff_of_false nofun ?_
    rw [setup, behaviour, content]
    simp
  · next missing =>
    refine iff_of_true rfl ?_
    by_contra present
    simp only [not_or, Option.ne_none_iff_exists'] at present
    obtain ⟨⟨g, setup⟩, ⟨b, behaviour⟩, c, content⟩ := present
    exact missing g b c setup behaviour content

/-- Only the operands of a STORE and a LINK_START can be refused (R129, R139). -/
theorem readOperands_ne_none {c : CommandCode} (r : List Byte) (notStore : c ≠ .store) (notStart : c ≠ .linkStart) :
    readOperands c r ≠ none := by
  cases c
  case store => exact absurd rfl notStore
  case linkStart => exact absurd rfl notStart
  all_goals exact nofun

/-- Settles O17: the order of the checks, the codes, and what each record holds. -/
theorem recordChecks : Obligations.RecordChecks := by
  unfold Obligations.RecordChecks
  refine ⟨fun expected r => ⟨fun phase => ?stale, fun phase check => ?badCheck, fun phase check code => ?badCommand,
    fun c phase check code => ⟨fun names far => ?badSlot, fun near => ⟨fun bad => ?badValue,
      fun command options operands => ?accepted⟩⟩⟩, commandCode_eq_some_iff, rfl, rfl, rfl, rfl, rfl, rfl, rfl, rfl,
    rfl, rfl, fun c => ⟨?names, ?optionBits⟩, fun r => ⟨?store, ?linkStart, fun c notStore notStart => ?others,
      fun _ => rfl, fun read => ?storeRead, fun read => ?linkStartRead, rfl, rfl, rfl, rfl, rfl, rfl, rfl, rfl⟩⟩
  case stale => exact checkRecord_stale phase
  case badCheck => exact checkRecord_badCheck phase check
  case badCommand => exact checkRecord_badCommand phase check code
  case badSlot => rw [checkRecord_of_code phase check code, if_pos ⟨names, far⟩]
  case badValue =>
    rw [checkRecord_of_code phase check code, if_neg fun bad => absurd (near bad.1) (by omega)]
    rcases bad with options | operands
    · exact if_pos options
    · rw [operands]
      exact ite_self _
  case accepted =>
    have holds := readOperands_wf operands
    refine ⟨?_, holds⟩
    rw [checkRecord_of_code phase check code, if_neg fun bad => absurd (near bad.1) (by omega), operands]
    exact if_neg (not_le.mpr options)
  case names => cases c <;> decide
  case optionBits => cases c <;> rfl
  case store =>
    change (readStore r).map Command.store = none ↔ _
    rw [Option.map_eq_none_iff, readStore_eq_none, readSetup_eq_none, readBehaviour_eq_none, readContent_eq_none]
    rfl
  case linkStart =>
    change (readLinkStart r).map Command.linkStart = none ↔ _
    rw [Option.map_eq_none_iff, readLinkStart_eq_none]
  case others => exact readOperands_ne_none r notStore notStart
  case storeRead =>
    change (readStore r).map Command.store ≠ none at read
    change (readStore r).map Command.store = _
    rw [readStore_ne_none (mt (Option.map_eq_none_iff.mpr) read)]
    rfl
  case linkStartRead =>
    change (readLinkStart r).map Command.linkStart ≠ none at read
    change (readLinkStart r).map Command.linkStart = _
    rw [readLinkStart_ne_none (mt (Option.map_eq_none_iff.mpr) read)]
    rfl

/-! ### The records the host writes (section 6.1.1) -/

/-- Bit `i` of the byte of three flags. -/
theorem flagByte_bits (x y z : Bool) : (flagByte x y z).toNat < 8 ∧ (flagByte x y z).getLsbD 0 = x ∧
    (flagByte x y z).getLsbD 1 = y ∧ (flagByte x y z).getLsbD 2 = z := by
  revert x y z
  decide

/-- The slot byte of a record names a slot of the table. -/
theorem Command.slotByte_toNat (c : Command) :
    (BitVec.ofNat 8 ((c.slot.map Fin.val).getD 0)).toNat = (c.slot.map Fin.val).getD 0 := by
  refine Nat.mod_eq_of_lt ?_
  cases c.slot with
  | none => decide
  | some k => exact Nat.lt_trans k.isLt (by decide)

/-- The slot read back from a record is the one the command names. -/
theorem Command.recSlot_bytesWith {c : Command} {k : SlotId} (names : c.slot = some k) (p : Bool) (t w : Half) :
    recSlot (c.bytesWith p t w) = k := by
  rw [recSlot, c.bytesWith_slot, c.slotByte_toNat, names]
  exact Fin.ext (Nat.mod_eq_of_lt k.isLt)

/-- The options of a STORE, bit by bit (Table 10-3). -/
theorem storeOptions_bits (u v w x y : Bool) :
    let options : Half := BitVec.ofNat 16 (u.toNat + 2 * v.toNat + 4 * w.toNat + 8 * x.toNat + 16 * y.toNat)
    options.getLsbD 0 = u ∧ options.getLsbD 1 = v ∧ options.getLsbD 2 = w ∧ options.getLsbD 3 = x ∧
      options.getLsbD 4 = y := by
  revert u v w x y
  decide

/-- The options of a LINK_START, bit by bit (Table 10-4). -/
theorem linkOptions_bits (u v : Bool) :
    let options : Half := BitVec.ofNat 16 (u.toNat + 2 * v.toNat)
    options.getLsbD 0 = u ∧ options.getLsbD 1 = v := by
  revert u v
  decide

/-- A command sets no option bit that it does not define (R170). -/
theorem Command.options_lt (c : Command) : c.options.toNat < 2 ^ c.code.optionBits := by
  have flag (b : Bool) : b.toNat ≤ 1 := Bool.toNat_le b
  cases c
  case store o =>
    refine lt_of_le_of_lt (Nat.mod_le _ _) (show _ < 32 from ?_)
    have := flag o.setup.isSome
    have := flag o.behaviour.isSome
    have := flag o.content.isSome
    have := flag o.clearStatus
    have := flag o.sendAfter
    omega
  case fetch k consume =>
    refine lt_of_le_of_lt (Nat.mod_le _ _) (show _ < 2 from ?_)
    have := flag consume
    omega
  case send k confirm =>
    refine lt_of_le_of_lt (Nat.mod_le _ _) (show _ < 2 from ?_)
    have := flag confirm
    omega
  case linkStart o =>
    refine lt_of_le_of_lt (Nat.mod_le _ _) (show _ < 4 from ?_)
    have := flag o.listenOnly
    have := flag o.selfFiling
    omega
  all_goals exact (by decide : (0 : Half).toNat < 2 ^ 0)

/-- The SETUP group written is the one read back (Table 10-3). -/
theorem readSetup_storeBytes {o : StoreOperands} {g : SetupOperands} (setup : o.setup = some g) (p : Bool)
    (t w : Half) : readSetup ((Command.store o).bytesWith p t w) = some g := by
  have operand := (Command.store o).bytesWith_operands p t w
  obtain ⟨small, b0, b1, b2⟩ := flagByte_bits g.inService g.maskInUse g.depotEnd
  have flags : recByte ((Command.store o).bytesWith p t w) 16 = flagByte g.inService g.maskInUse g.depotEnd := by
    rw [operand 0]
    simp [Command.operandBytes, StoreOperands.bytes, recByte, setup]
  have role : recByte ((Command.store o).bytesWith p t w) 17 = if g.role = .publish then 1 else 0 := by
    rw [operand 1]
    simp [Command.operandBytes, StoreOperands.bytes, recByte, setup]
  have key : recKey ((Command.store o).bytesWith p t w) 20 = g.key := by
    refine Eq.trans ?_ (key_of_bytes g.key)
    rw [recKey, operand 4, operand 5, operand 6]
    simp [Command.operandBytes, StoreOperands.bytes, recByte, keyBytes, setup]
  have mask : recKey ((Command.store o).bytesWith p t w) 24 = g.mask := by
    refine Eq.trans ?_ (key_of_bytes g.mask)
    rw [recKey, operand 8, operand 9, operand 10]
    simp [Command.operandBytes, StoreOperands.bytes, recByte, keyBytes, setup]
  have inRange : readSetup ((Command.store o).bytesWith p t w) ≠ none := by
    have roleSmall : (if g.role = .publish then 1 else 0 : Byte).toNat < 2 := by split <;> decide
    rw [Ne, readSetup_eq_none, flags, role, operand 7, operand 11, not_or, not_or, not_or]
    exact ⟨by omega, by omega, not_not.mpr rfl, not_not.mpr rfl⟩
  have roleRead : (if (if g.role = .publish then 1 else 0 : Byte) = 1 then Role.publish else .subscribe) = g.role := by
    cases g.role <;> rfl
  rw [readSetup_ne_none inRange, flags, role, key, mask, b0, b1, b2, roleRead]

/-- The BEHAVIOUR group written is the one read back (Table 10-3). -/
theorem readBehaviour_storeBytes {o : StoreOperands} {g : BehaviourOperands} (behaviour : o.behaviour = some g)
    (p : Bool) (t w : Half) : readBehaviour ((Command.store o).bytesWith p t w) = some g := by
  obtain ⟨small, b0, b1, b2⟩ := flagByte_bits g.answer g.notify g.keepFirst
  have flags : recByte ((Command.store o).bytesWith p t w) 18 = flagByte g.answer g.notify g.keepFirst := by
    rw [(Command.store o).bytesWith_operands p t w 2]
    simp [Command.operandBytes, StoreOperands.bytes, recByte, behaviour]
  have inRange : readBehaviour ((Command.store o).bytesWith p t w) ≠ none := by
    rw [Ne, readBehaviour_eq_none, flags]
    exact not_le.mpr small
  rw [readBehaviour_ne_none inRange, flags, b0, b1, b2]

/-- The CONTENT group written is the one read back (Table 10-3). -/
theorem readContent_storeBytes {o : StoreOperands} {g : ContentOperands} (content : o.content = some g)
    (short : g.length ≤ 16) (full : g.bytes.length = 16) (p : Bool) (t w : Half) :
    readContent ((Command.store o).bytesWith p t w) = some g := by
  have operand := (Command.store o).bytesWith_operands p t w
  have length : (recByte ((Command.store o).bytesWith p t w) 19).toNat = g.length := by
    rw [operand 3]
    simp only [Command.operandBytes, StoreOperands.bytes, recByte, content]
    exact Nat.mod_eq_of_lt (show g.length < 256 by omega)
  have data (i : Nat) (low : i < 16) : recByte ((Command.store o).bytesWith p t w) (32 + i) = g.bytes.getD i 0 := by
    rw [show 32 + i = 16 + (i + 16) by omega, operand (i + 16)]
    simp [Command.operandBytes, StoreOperands.bytes, recByte, content, keyBytes, List.getElem?_append, low]
  have bytes : (List.range 16).map (fun i => recByte ((Command.store o).bytesWith p t w) (32 + i)) = g.bytes := by
    refine List.ext_getElem (by simp [full]) fun i low _ => ?_
    rw [List.length_map, List.length_range] at low
    rw [List.getElem_map, List.getElem_range, data i low, List.getD_eq_getElem]
  have inRange : readContent ((Command.store o).bytesWith p t w) ≠ none := by
    rw [Ne, readContent_eq_none, length]
    exact not_lt.mpr short
  rw [readContent_ne_none inRange, length, bytes]

/-- A group that is selected exactly when it is present is read back as it is. -/
theorem whenSelected_isSome {α : Type} {g : Option α} {read : Option α} (same : ∀ v, g = some v → read = some v) :
    whenSelected g.isSome read = some g := by
  cases g with
  | none => rfl
  | some v => rw [same v rfl]; rfl

/-- The operands of a STORE that a record can hold are read back (R129, Table 10-3). -/
theorem readStore_bytesWith {o : StoreOperands} (wf : (Command.store o).wf = true) (p : Bool) (t w : Half) :
    readStore ((Command.store o).bytesWith p t w) = some o := by
  obtain ⟨b0, b1, b2, b3, b4⟩ := storeOptions_bits o.setup.isSome o.behaviour.isSome o.content.isSome o.clearStatus
    o.sendAfter
  have options : recOptions ((Command.store o).bytesWith p t w) = (Command.store o).options :=
    (Command.store o).bytesWith_options p t w
  have content (g : ContentOperands) (is : o.content = some g) :
      readContent ((Command.store o).bytesWith p t w) = some g := by
    simp only [Command.wf, is, Bool.and_eq_true, decide_eq_true_eq] at wf
    exact readContent_storeBytes is wf.1 wf.2 p t w
  rw [readStore, options, Command.options, b0, b1, b2, b3, b4, Command.recSlot_bytesWith rfl,
    whenSelected_isSome fun g is => readSetup_storeBytes is p t w,
    whenSelected_isSome fun g is => readBehaviour_storeBytes is p t w, whenSelected_isSome content]

/-- The options of a LINK_START that a record can hold are read back (R139, Table 10-4). -/
theorem readLinkStart_bytesWith {o : LinkOptions} (wf : (Command.linkStart o).wf = true) (p : Bool) (t w : Half) :
    readLinkStart ((Command.linkStart o).bytesWith p t w) = some o := by
  have operand := (Command.linkStart o).bytesWith_operands p t w
  simp only [Command.wf, Bool.and_eq_true, decide_eq_true_eq] at wf
  obtain ⟨⟨⟨⟨low, high⟩, some⟩, few⟩, interval⟩ := wf
  obtain ⟨b0, b1⟩ := linkOptions_bits o.listenOnly o.selfFiling
  have own : (recByte ((Command.linkStart o).bytesWith p t w) 16).toNat = o.ownAddress.toNat := by
    rw [operand 0]
    change (o.ownAddress.setWidth 8).toNat = _
    rw [BitVec.toNat_setWidth]
    exact Nat.mod_eq_of_lt (Nat.lt_trans o.ownAddress.isLt (by decide : 2 ^ 5 < 2 ^ 8))
  have divider : (recHalf ((Command.linkStart o).bytesWith p t w) 9).toNat = o.divider := by
    rw [recHalf, operand 2, operand 3]
    refine (congrArg _ (highByte_append_lowByte (BitVec.ofNat 16 o.divider))).trans ?_
    exact Nat.mod_eq_of_lt (by omega)
  have budget : (recByte ((Command.linkStart o).bytesWith p t w) 20).toNat = o.budget := by
    rw [operand 4]
    exact Nat.mod_eq_of_lt (by omega)
  have invite : (recByte ((Command.linkStart o).bytesWith p t w) 21).toNat = o.inviteInterval := by
    rw [operand 5]
    exact Nat.mod_eq_of_lt (by omega)
  have options : recOptions ((Command.linkStart o).bytesWith p t w) = (Command.linkStart o).options :=
    (Command.linkStart o).bytesWith_options p t w
  have inRange : readLinkStart ((Command.linkStart o).bytesWith p t w) ≠ none := by
    have := o.ownAddress.isLt
    rw [Ne, readLinkStart_eq_none, own, divider, budget]
    omega
  rw [readLinkStart_ne_none inRange, own, divider, budget, invite, options, Command.options, b0, b1,
    BitVec.ofNat_toNat, BitVec.setWidth_eq]

/-- Every command that a record can hold is read back from the record written for it. -/
theorem readOperands_bytesWith {c : Command} (wf : c.wf = true) (p : Bool) (t w : Half) :
    readOperands c.code (c.bytesWith p t w) = some c := by
  have option (c : Command) (b : Bool) (is : c.options = BitVec.ofNat 16 b.toNat) :
      (recOptions (c.bytesWith p t w)).getLsbD 0 = b := by
    rw [show recOptions (c.bytesWith p t w) = c.options from c.bytesWith_options p t w, is]
    cases b <;> rfl
  cases c
  case store o => exact congrArg (Option.map Command.store) (readStore_bytesWith wf p t w)
  case linkStart o => exact congrArg (Option.map Command.linkStart) (readLinkStart_bytesWith wf p t w)
  case fetch k consume =>
    rw [Command.code, readOperands, Command.recSlot_bytesWith rfl, option _ consume rfl]
  case send k confirm =>
    rw [Command.code, readOperands, Command.recSlot_bytesWith rfl, option _ confirm rfl]
  case cancel k => rw [Command.code, readOperands, Command.recSlot_bytesWith rfl]
  all_goals rfl

/-- Settles O20: the record of every command passes the checks and gives the command back. -/
theorem commandRecordRoundTrip : Obligations.CommandRecordRoundTrip := by
  unfold Obligations.CommandRecordRoundTrip
  intro c phase tag wf
  refine ⟨c.bytesWith_length phase tag _, c.bytesWith_tag phase tag _, ?_⟩
  have phaseOk : recPhase (c.record phase tag) = phase := by
    rw [recPhase, Command.record, c.bytesWith_phase]
    cases phase <;> rfl
  have slot : ¬(c.code.namesSlot = true ∧ 63 < (recByte (c.record phase tag) 8).toNat) := by
    rw [Command.record, c.bytesWith_slot, c.slotByte_toNat]
    rintro ⟨_, far⟩
    cases is : c.slot with
    | none => simp [is] at far
    | some k =>
      have : k.val < 64 := k.isLt
      simp [is] at far
      omega
  have options : recOptions (c.record phase tag) = c.options := c.bytesWith_options phase tag _
  rw [checkRecord_of_code phaseOk (c.record_checkCorrect phase tag) (commandCode_byte_eq c.code), if_neg slot, options,
    if_neg (not_le.mpr c.options_lt), Command.record, readOperands_bytesWith wf]
  rfl

end Sys2Proof.Machine
end

section
/-!
PROOFS. The event writer: its writes begin, end and fail, its records, and the notify line (R148 to R157, R165, R166).
-/
namespace Sys2Proof.Machine

variable {s : State}

/-! ### The writes begin (R148, R151, R152, R155) -/

/-- The oldest done entry stands first among the done ones (R118). -/
theorem oldestDone_eq {l : List Entry} {p : Nat} {e : Entry} {c : Completion} (here : l[p]? = some e)
    (done : e.state = .done c) (first : ∀ q < p, ∀ e', l[q]? = some e' → e'.completion = none) :
    oldestDone l = some p := by
  obtain ⟨low, rfl⟩ := List.getElem?_eq_some_iff.mp here
  rw [oldestDone, List.findIdx?_eq_some_iff_getElem]
  refine ⟨low, by simp [Entry.completion, done], fun q before => ?_⟩
  rw [first q before _ (List.getElem?_eq_getElem (before.trans low))]
  decide

/-- The write of the oldest done entry's completion begins (R148, R151). -/
theorem exec_completionWrite_of {p : Nat} {e : Entry} {c : Completion} (free : s.events.write = none)
    (on : s.engine.state ≠ .faulted) (high : s.resetLow = false) (here : s.engine.openList[p]? = some e)
    (done : e.state = .done c)
    (first : ∀ q < p, ∀ e', s.engine.openList[q]? = some e' → e'.completion = none) :
    exec .completionWrite s = .next (s.beginWrite (completionRecord s.events.phase e c) (.completion p)) := by
  have completion : e.completion = some c := by rw [Entry.completion, done]
  have due : s.completionDue = true := by
    have ready : s.completionReady = true :=
      s.completionReady_iff.mpr ⟨⟨e, List.mem_of_getElem? here, by simp [completion]⟩, on⟩
    simp [State.completionDue, free, ready, high]
  rw [exec_completionWrite, execCompletionWrite, if_pos due, oldestDone_eq here done first]
  simp only [State.beginCompletion, here, completion]

/-- Settles O30: the write of a completion, and of the link notice. -/
theorem completionAndLinkNoticeWritesBegin : Obligations.CompletionAndLinkNoticeWritesBegin := by
  unfold Obligations.CompletionAndLinkNoticeWritesBegin
  refine ⟨fun s p e c free on high here done first => ?completion,
    fun s n waits free running room high none => ?notice⟩
  case completion => exact exec_completionWrite_of free on high here done first
  case notice =>
    have due : s.linkNoticeDue = true :=
      s.rowDue_linkNoticeWrite.mp ⟨free, by simp [waits], running, room, none, high⟩
    rw [exec_linkNoticeWrite, execLinkNoticeWrite, waits]
    exact congrArg _ (if_pos due)

/-- What lets a slot notice's write begin, the notice list aside (R148). -/
theorem State.slotNoticeReady_of_mayWrite (s : State) : s.slotNoticeReady = true ↔
    (s.events.write = none ∧ s.engine.state = .running ∧ s.engine.credits < s.freeEntries ∧
      (∀ e ∈ s.engine.openList, e.completion = none) ∧ s.events.linkNotice = none) ∧ s.events.noticeList ≠ [] := by
  rw [State.slotNoticeReady_iff, State.noticeRoom_iff, State.completionReady_false_iff, State.linkNoticeReady,
    Bool.and_eq_false_iff, ← Bool.not_eq_true s.noticeRoom, State.noticeRoom_iff]
  constructor
  · rintro ⟨free, listed, ⟨running, room⟩, none | off, no | no⟩
    · exact ⟨⟨free, running, room, none, by simpa using no⟩, listed⟩
    · exact absurd ⟨running, room⟩ no
    · simp [running] at off
    · simp [running] at off
  · rintro ⟨⟨free, running, room, none, no⟩, listed⟩
    exact ⟨free, listed, ⟨running, room⟩, .inl none, .inl (by simp [no])⟩

/-- Settles O31: the read for notice that begins a write, and the one that ends without. -/
theorem slotNoticeWriteBegins : Obligations.SlotNoticeWriteBegins := by
  unfold Obligations.SlotNoticeWriteBegins
  intro s turn high
  dsimp only
  have runs : exec .readForNotice s = .next (s.dropClaim .notice).readFront := by
    rw [exec_readForNotice, execReadForNotice, if_pos (by simp [State.noticeDue, turn, high])]
  have ready := (s.dropClaim .notice).slotNoticeReady_of_mayWrite
  refine ⟨fun k rest may list => ?begins, fun not => ?ends⟩
  case begins =>
    have front : (s.dropClaim .notice).events.noticeList = k :: rest := list
    rw [runs, State.readFront, front]
    exact congrArg _ (if_pos (ready.mpr ⟨may, front ▸ List.cons_ne_nil k rest⟩))
  case ends =>
    rw [runs, State.readFront]
    split
    · next k rest front =>
      refine congrArg _ (if_neg fun is => ?_)
      rcases not with blocked | empty
      · exact blocked (ready.mp is).1
      · exact (ready.mp is).2 empty
    · rfl

/-! ### The writes end (R118, R149, R150, R157, R166) -/

/-- The access number of the write in flight is its own. -/
theorem State.writing_access {w : EventWrite} (inFlight : s.events.write = some w) : s.writing w.access = true := by
  rw [State.writing, inFlight]
  exact decide_eq_true rfl

/-- A BARRIER left first in the list is done with OK (R117). -/
theorem releaseBarrier_cons (e : Entry) (l : List Entry) : releaseBarrier (e :: l) =
    (if e.state = .waiting ∧ e.code = 0x20 then { e with state := doneWith .ok } else e) :: l := by
  simp only [releaseBarrier, Entry.waitsAs, Bool.and_eq_true, decide_eq_true_eq]
  rfl

/-- Settles O32: a notice written, and a completion. -/
theorem eventWriteDone : Obligations.EventWriteDone := by
  unfold Obligations.EventWriteDone
  intro s w inFlight
  dsimp only
  have runs : exec (.eventWriteDone w.access) s = .next (s.writeEnded w) := by
    rw [exec_eventWriteDone, execEventWriteDone, inFlight]
    exact congrArg _ (if_pos (State.writing_access inFlight))
  rw [runs, State.writeEnded]
  refine ⟨fun source => ?notice, fun p source => ?completion⟩
  case notice => rw [source]; rfl
  case completion =>
    rw [source]
    dsimp only [Engine.removeEntry]
    cases s.engine.openList.eraseIdx p with
    | nil => rfl
    | cons e l => rw [releaseBarrier_cons]; rfl

/-- A failed write is discarded and the engine FAULTED; FAULTED already, the fault code stays (R121, R150). -/
theorem State.writeFailed_eq (s : State) : s.writeFailed = { s with
    events.write := none
    engine.state := .faulted
    engine.fault := if s.engine.state = .faulted then s.engine.fault else .eqWrite } := by
  rw [State.writeFailed]
  split
  · next faulted =>
    rw [← faulted]
    rfl
  · rfl

/-- Settles O33: the failing answer, and the missing one. -/
theorem eventWriteFails : Obligations.EventWriteFails := by
  unfold Obligations.EventWriteFails
  intro s w inFlight
  refine ⟨?fails, fun late => ?late⟩
  case fails =>
    rw [exec_eventWriteFail, execEventWriteFail, if_pos (State.writing_access inFlight), State.writeFailed_eq]
  case late =>
    have due : s.timeoutDue .eventWrite = true := by
      rw [State.timeoutDue, inFlight]
      exact decide_eq_true late
    rw [exec_busResponseTimeout, execBusResponseTimeout.eq_def, if_pos due, State.writeFailed_eq]

/-! ### The quiet timer and the notify line (R156, R157) -/

/-- The notify line is asserted by the level condition or by the quiet condition (R156). -/
theorem State.notifyAsserted_iff (s : State) : s.notifyAsserted = true ↔
    (s.regs.notifyLevel ≠ 0 ∧ s.regs.notifyLevel ≤ s.unconsumed) ∨
    (s.regs.notifyQuiet ≠ 0 ∧ 1 ≤ s.unconsumed ∧ s.regs.notifyQuiet ≤ s.events.quietClocks / 40) := by
  have quiet : s.quietCondition = true ↔
      s.regs.notifyQuiet ≠ 0 ∧ 1 ≤ s.unconsumed ∧ s.regs.notifyQuiet ≤ s.events.quietClocks / 40 := by
    rw [State.quietCondition, State.quietExpired, Bool.and_eq_true, Bool.and_eq_true, decide_eq_true_eq,
      decide_eq_true_eq, decide_eq_true_eq, and_assoc, and_comm (b := 1 ≤ s.unconsumed)]
    rfl
  rw [State.notifyAsserted, State.levelCondition, Bool.or_eq_true, Bool.and_eq_true, decide_eq_true_eq,
    decide_eq_true_eq, quiet]

/-- Settles O34: the two conditions, the pin, and the expiry. -/
theorem quietTimerAndNotifyLine : Obligations.QuietTimerAndNotifyLine := by
  unfold Obligations.QuietTimerAndNotifyLine
  intro s
  refine ⟨s.notifyAsserted_iff, fun high => ?pin, _, rfl, rfl, fun set one => ?expires⟩
  case pin => rw [State.notifyPin, high, Bool.false_or]
  case expires =>
    refine (State.notifyAsserted_iff _).mpr (.inr ⟨set, one, ?_⟩)
    exact (Nat.le_div_iff_mul_le (by decide)).mpr (Nat.le_max_right _ _)

/-! ### The records (Tables 10-5 to 10-8) -/

theorem phaseByte_eq (phase : Bool) : phaseByte phase = if phase then 1 else 0 := by cases phase <;> rfl

theorem addressByte_eq (a : Option Addr) : addressByte a = (a.map (·.setWidth 8)).getD 0xFF := by cases a <;> rfl

theorem lowByte_eq (h : Half) : lowByte h = h.setWidth 8 := rfl

theorem highByte_eq (h : Half) : highByte h = (h >>> 8).setWidth 8 := rfl

/-- The statuses whose completion carries a result (R125). -/
theorem Status.carriesResult_iff (st : Status) : st.carriesResult = true ↔ st = .ok ∨ st = .tooLate ∨ st = .sent := by
  cases st <;> decide

/-- The phase byte is the one byte that comes last (R165). -/
theorem EventWrite.busOrder_eq (w : EventWrite) : w.busOrder =
    ((List.range 32).filter (· ≠ 1) ++ [1]).map fun i => (w.address + BitVec.ofNat 64 i, w.record.getD i 0) := rfl

/-- The head of a COMPLETION record and its 24 result bytes (Table 10-6). -/
theorem completionRecord_eq (phase : Bool) (e : Entry) (c : Completion) : completionRecord phase e c =
    [1, if phase then 1 else 0, BitVec.ofNat 8 e.index, BitVec.ofNat 8 (e.index / 256), e.tag.setWidth 8,
      (e.tag >>> 8).setWidth 8, e.code, c.status.code] ++
    if c.status.carriesResult then c.result.bytes else List.replicate 24 0 := by
  have low : lowByte (BitVec.ofNat 16 e.index) = BitVec.ofNat 8 e.index :=
    BitVec.setWidth_ofNat_of_le (show 8 ≤ 16 by decide) _
  have high : highByte (BitVec.ofNat 16 e.index) = BitVec.ofNat 8 (e.index / 256) := by
    refine BitVec.eq_of_toNat_eq ?_
    rw [highByte, BitVec.extractLsb'_toNat, BitVec.toNat_ofNat, BitVec.toNat_ofNat, Nat.shiftRight_eq_div_pow]
    omega
  rw [completionRecord, halfBytes, halfBytes, low, high, lowByte_eq, highByte_eq, phaseByte_eq]
  rfl

/-- The flags byte of a FETCH result, the role as PUBLISH = 1 (Table 10-7). -/
theorem fetchFlags_eq (x : Slot) : fetchFlags x =
    BitVec.ofNat 8 (x.inService.toNat + 2 * (if x.role = .publish then 1 else 0) + 4 * x.fresh.toNat
      + 8 * x.overrun.toNat + 16 * x.sendPending.toNat + 32 * x.filingNumber.isNone.toNat) := by
  rw [fetchFlags]
  cases x.role <;> rfl

/-- Settles O35: the records field by field, the bus order, and the codes. -/
theorem eventRecordLayouts : Obligations.EventRecordLayouts := by
  unfold Obligations.EventRecordLayouts
  refine ⟨fun phase e c k x n clash rotation w => ?records, ?codes⟩
  case records =>
    dsimp only
    refine ⟨⟨_, completionRecord_eq phase e c, ?length, ?bare, ?empty, fun ok fetch => ?fetch, fun b st cancel => ?cancel,
      fun m counter cursor ok map => ?mapRead⟩, ?filed, ?solicited, ?link, w.busOrder_eq⟩
    case length =>
      split
      · exact c.result.bytes_length
      · rfl
    case bare => exact fun no not_late not_sent => if_neg fun carries =>
        (c.status.carriesResult_iff.mp carries).elim no fun st => st.elim not_late not_sent
    case empty =>
      intro none
      rw [none]
      exact ite_self _
    case fetch =>
      rw [if_pos (c.status.carriesResult_iff.mpr (.inl ok)), fetch, Result.bytes, addressByte_eq]
      exact ⟨congrArg (· :: _) (fetchFlags_eq x), rfl⟩
    case cancel =>
      rw [if_pos (c.status.carriesResult_iff.mpr (st.elim .inl fun late => .inr (.inl late))), cancel]
      cases b <;> rfl
    case mapRead =>
      rw [if_pos (c.status.carriesResult_iff.mpr (.inl ok)), map, Result.bytes, addressByte_eq]
      cases m.clash <;> rfl
    case filed => rw [filedRecord, phaseByte_eq, addressByte_eq]; rfl
    case solicited => rw [solicitedRecord, phaseByte_eq]; rfl
    case link => rw [linkRecord, phaseByte_eq, addressByte_eq]; rfl
  case codes => decide

end Sys2Proof.Machine
end

section
/-!
PROOFS. The ring controller's shared steps, activity starts and arrivals (R32 to R45, R65 to R88).
-/
namespace Sys2Proof.Machine

variable {s : State}

/-! ### Activity starts (R32, R39 to R41) -/

theorem Timer.hold_eq (t : Timer) : t.hold = match t with | .running c => .held c | x => x := by
  cases t <;> rfl

/-- Settles O36: the four things an active level can be to the receiver. -/
theorem activityStartHolds : Obligations.ActivityStartHolds := by
  unfold Obligations.ActivityStartHolds
  intro s n
  dsimp only
  rw [exec_activityStart, ← State.hunts_iff, ← LineUnit.rested_iff, ← LineUnit.holdsBit_iff]
  refine ⟨execActivityStart_not_due, fun active hunts reported => ?reported, fun active hunts unreported => ?unreported,
    fun active deaf => ?deaf⟩
  case reported =>
    rw [execActivityStart_due active, State.seeActive_reported hunts reported.1 reported.2, Ring.holdTimers,
      Timer.hold_eq, Timer.hold_eq, Timer.hold_eq]
    rfl
  case unreported => rw [execActivityStart_due active, State.seeActive_unreported hunts unreported]; rfl
  case deaf => rw [execActivityStart_due active, State.seeActive_not_hunting deaf]; rfl

/-! ### The shared steps (R36, R37, R67, R73, R80 to R84, R87) -/

/-- A link change is handed on when the condition is new, or IN RING with a new successor (R84). -/
theorem Ring.changed_iff (r : Ring) : r.changed = true ↔
    r.condition ≠ r.lastCondition ∨ r.condition = .inRing ∧ r.successor ≠ r.lastSuccessor := by
  rw [Ring.changed, Bool.or_eq_true, Bool.and_eq_true, decide_eq_true_eq, decide_eq_true_eq, decide_eq_true_eq]

/-- The state after an arrival's first effects, field by field (R36, R67). -/
theorem State.noteArrival_eq (s : State) (a : Arrival) : s.noteArrival a = { s with
    lineActive := if a = .garbled then s.lineActive else 0
    line.receiver := .hunting
    line.idleClocks := 0
    line.waiting := s.line.waiting.map fun w =>
      if w.gap * s.line.divider ≤ w.elapsed then { kind := w.kind, gap := 4, elapsed := 0 } else w
    ring.liveMap := match a.source with | some x => setMark s.ring.liveMap x | none => s.ring.liveMap
    ring.clash := s.ring.clash || decide (a.source = some s.ring.ownAddress)
    ring.silence := if s.ring.link = .off ∨ s.ring.link = .withdrawn then s.ring.silence else .running 0
    ring.window := .stopped
    ring.pause := .stopped } := by
  have again : Waiting.remeasure s.line.divider = fun w =>
      if w.gap * s.line.divider ≤ w.elapsed then { kind := w.kind, gap := 4, elapsed := 0 } else w := by
    funext w
    rw [Waiting.remeasure, Waiting.due]
    simp only [decide_eq_true_eq]
    rfl
  rw [State.noteArrival, LineUnit.endActivity, again, Ring.markSource_eq, Ring.restartSilence_eq]
  rfl

theorem State.startHolding_eq (s : State) (gap : Nat) : s.startHolding gap = { s with
    ring.link := .holding
    ring.rotation := s.ring.rotation + 1
    ring.inviteCountdown :=
      if s.ring.successor ≠ none ∧ s.ring.inviteInterval ≠ 0 then s.ring.inviteCountdown - 1
      else s.ring.inviteCountdown
    ring.window := .stopped
    ring.pause := .stopped
    ring.awaited := none
    sched.holding := true
    sched.framesLeft := s.ring.budget
    sched.sendingOpen := true
    line.waiting := some { kind := .opportunity, gap := gap, elapsed := 0 } } := by
  have countdown : s.ring.stepCountdown =
      if s.ring.successor ≠ none ∧ s.ring.inviteInterval ≠ 0 then s.ring.inviteCountdown - 1
      else s.ring.inviteCountdown := by
    simp only [Ring.stepCountdown, Bool.and_eq_true, decide_eq_true_eq, Option.isSome_iff_ne_none]
  rw [State.startHolding, State.enterHolding, Ring.enterHolding, countdown]
  rfl

theorem State.passToken_eq (s : State) (d : Addr) (attempt : Attempt) : s.passToken d attempt = { s with
    ring.link := .passing
    ring.awaited := some d
    ring.attempt := attempt
    ring.silence := match s.ring.silence with | .held c => .running c | x => x
    sched.holding := false
    sched.framesLeft := 0
    line.ringFrame := some { kind := .token, destination := d }
    line.txClocks := 0
    line.waiting := none
    line.receiver := if s.line.receiver = .assembling then .hunting else s.line.receiver } := by
  rw [State.passToken, Timer.release_eq]
  rfl

theorem State.unheardTo_low (link : LinkState) (low : s.ring.unheard + 1 < 6) : s.unheardTo link = { s with
    ring.link := link
    ring.awaited := none
    ring.unheard := s.ring.unheard + 1
    sched.holding := false
    sched.framesLeft := 0
    line.waiting := none } :=
  if_neg (Nat.not_le_of_lt low)

theorem State.unheardTo_withdrawn (link : LinkState) (high : 6 ≤ s.ring.unheard + 1) : s.unheardTo link = { s with
    ring.link := .withdrawn
    ring.awaited := none
    ring.unheard := 6
    ring.window := .stopped
    ring.silence := .stopped
    ring.pause := .stopped
    sched.holding := false
    sched.framesLeft := 0
    line.waiting := none
    engine.openList := endWaits .send .linkDown s.engine.openList } := by
  rw [State.unheardTo, if_pos (show Config.unheardLimit ≤ _ from high), State.withdraw, State.reportWithdrawn, finishWaits_eq]
  rfl

theorem State.reachOff_eq (s : State) : s.reachOff = { s with
    ring.link := .off
    ring.awaited := none
    ring.attempt := .first
    ring.stopRequest := false
    ring.unheard := if s.ring.link = .withdrawn then 0 else s.ring.unheard
    ring.window := .stopped
    ring.silence := .stopped
    ring.pause := .stopped
    line.receiver := .stopped
    line.waiting := none
    sched.holding := false
    sched.framesLeft := 0
    sched.stopRequest := false
    engine.openList := endWaits .linkStop .ok (endWaits .send .linkDown s.engine.openList) } := by
  rw [State.reachOff, State.reportOff, finishWaits_eq, finishWaits_eq]
  rfl

/-- Settles O38, step by step. -/
theorem ringSteps : Obligations.RingSteps := by
  unfold Obligations.RingSteps
  intro s
  refine ⟨fun off => ?off, fun listening => ?listening, fun inRing => ⟨fun next => ?inRing, fun alone => ?alone⟩,
    fun withdrawn => ?withdrawn, s.noteArrival_eq, s.startHolding_eq, s.passToken_eq, fun _ => rfl,
    fun link low => State.unheardTo_low link low, fun link high => State.unheardTo_withdrawn link high, s.reachOff_eq,
    fun changed => ?changed, fun same successor => ?same⟩
  case off => rw [Ring.condition, off]; rfl
  case listening => rcases listening with link | link <;> rw [Ring.condition, link] <;> rfl
  case inRing =>
    obtain ⟨d, is⟩ := Option.ne_none_iff_exists'.mp next
    rcases inRing with link | link | link | link <;> rw [Ring.condition, link, is] <;> rfl
  case alone => rcases inRing with link | link | link | link <;> rw [Ring.condition, link, alone] <;> rfl
  case withdrawn => rw [Ring.condition, withdrawn]; rfl
  case changed =>
    rw [State.reportLink_changed (s.ring.changed_iff.mpr changed)]
    cases waits : s.events.linkNotice <;> rw [mergeLinkNotice] <;> rfl
  case same =>
    refine State.reportLink_same (Bool.eq_false_iff.mpr fun changed => ?_)
    rcases s.ring.changed_iff.mp changed with condition | ⟨inRing, new⟩
    · exact condition same
    · exact new (successor inRing)

/-! ### Arrivals in each link state (R67 to R83) -/

/-- What a frame row does: the arrival it brings, and the filing request it hands on (R33, R44, R45, R67). -/
theorem ArrivesAs.exec_eq {c : Instr} {a : Arrival} {r : Option FilingRequest} (arrives : ArrivesAs c a r)
    (takes : s.takesArrival r) : exec c s = .next ((s.arrive a).handOnOf r) := by
  have filed {x : FilingRequest} (is : r = some x) : (s.hears && s.filing.isNone) = true := by
    rw [takes.1, takes.2 (is ▸ nofun)]; rfl
  cases arrives with
  | data source key payload fits =>
    rw [exec_dataFrame, execDataFrame, if_pos fits]
    exact congrArg _ (if_pos (filed rfl))
  | dataLong source key payload long => rw [exec_dataFrame, execDataFrame, if_neg (Nat.not_le_of_lt long)]; rfl
  | solicit source key => exact congrArg _ (if_pos (filed rfl))
  | token source d low => exact congrArg _ (if_pos low)
  | tokenHigh source d high => exact congrArg _ (if_neg (Nat.not_le_of_lt high))
  | invite source d low => exact congrArg _ (if_pos low)
  | inviteHigh source d high => exact congrArg _ (if_neg (Nat.not_le_of_lt high))
  | join source d low => exact congrArg _ (if_pos low)
  | joinHigh source d high => exact congrArg _ (if_neg (Nat.not_le_of_lt high))
  | claim source => rfl
  | foreign => rfl
  | garbled => rfl

/-- An arrival that is taken, by the rule of the link state (R67). -/
theorem ArrivesAs.exec_of_rule {c : Instr} {a : Arrival} {r : Option FilingRequest} {t : State}
    (arrives : ArrivesAs c a r) (takes : s.takesArrival r)
    (rule : (s.noteArrival a).takeByLink a (!s.ring.window.isStopped) = t) :
    exec c s = .next (t.reportLink.handOnOf r) := by
  rw [arrives.exec_eq takes, State.arrive, if_pos takes.1, rule]

section
variable (s : State) (a : Arrival)

theorem State.noteArrival_link : (s.noteArrival a).ring.link = s.ring.link := (s.noteArrival_keeps a).1
theorem State.noteArrival_stop : (s.noteArrival a).ring.stopRequest = s.ring.stopRequest := (s.noteArrival_keeps a).2.1
theorem State.noteArrival_listenOnly : (s.noteArrival a).ring.listenOnly = s.ring.listenOnly :=
  (s.noteArrival_keeps a).2.2.1
theorem State.noteArrival_own : (s.noteArrival a).ring.ownAddress = s.ring.ownAddress := (s.noteArrival_keeps a).2.2.2.1
theorem State.noteArrival_awaited : (s.noteArrival a).ring.awaited = s.ring.awaited := (s.noteArrival_keeps a).2.2.2.2.1

/-! With no stop request an arrival is taken by the rule of the link state it comes in (R67). -/

variable (inWindow : Bool)

theorem State.rule_idle (go : s.ring.stopRequest = false) (link : s.ring.link = .listen ∨ s.ring.link = .member) :
    (s.noteArrival a).takeByLink a inWindow = (s.noteArrival a).takeIdle a := by
  rcases link with link | link <;> rw [State.takeByLink, s.noteArrival_stop, go, s.noteArrival_link, link] <;> rfl

theorem State.rule_joining (go : s.ring.stopRequest = false) (link : s.ring.link = .joining) :
    (s.noteArrival a).takeByLink a inWindow = (s.noteArrival a).takeJoining a := by
  rw [State.takeByLink, s.noteArrival_stop, go, s.noteArrival_link, link]
  rfl

theorem State.rule_holding (go : s.ring.stopRequest = false) (link : s.ring.link = .holding) :
    (s.noteArrival a).takeByLink a inWindow = (s.noteArrival a).takeHolding a := by
  rw [State.takeByLink, s.noteArrival_stop, go, s.noteArrival_link, link]
  rfl

theorem State.rule_inviting (go : s.ring.stopRequest = false) (link : s.ring.link = .inviting) :
    (s.noteArrival a).takeByLink a inWindow = (s.noteArrival a).takeInviting a inWindow := by
  rw [State.takeByLink, s.noteArrival_stop, go, s.noteArrival_link, link]
  rfl

theorem State.rule_passing (go : s.ring.stopRequest = false) (link : s.ring.link = .passing) :
    (s.noteArrival a).takeByLink a inWindow = (s.noteArrival a).takePassing a := by
  rw [State.takeByLink, s.noteArrival_stop, go, s.noteArrival_link, link]
  rfl

theorem State.rule_withdrawn (go : s.ring.stopRequest = false) (link : s.ring.link = .withdrawn) :
    (s.noteArrival a).takeByLink a inWindow = s.noteArrival a := by
  rw [State.takeByLink, s.noteArrival_stop, go, s.noteArrival_link, link]
  rfl

theorem State.rule_stop (stop : s.ring.stopRequest = true) :
    (s.noteArrival a).takeByLink a inWindow = (s.noteArrival a).reachOff := by
  rw [State.takeByLink, s.noteArrival_stop, stop]
  rfl

theorem State.token_iff : a.isTokenFor (s.noteArrival a).ring.ownAddress = true ↔ ∃ x, a = .token x s.ring.ownAddress := by
  rw [s.noteArrival_own]
  exact a.isTokenFor_iff _

end

/-- Settles O39: the rule of LISTEN and MEMBER. -/
theorem arrivalsInListenAndMember : Obligations.ArrivalsInListenAndMember := by
  unfold Obligations.ArrivalsInListenAndMember
  intro c a r s arrives takes go link
  dsimp only
  rw [arrives.exec_of_rule takes (s.rule_idle a _ go link), State.takeIdle, s.noteArrival_listenOnly]
  refine ⟨fun speaks forPart => ?token, fun x speaks invite => ?invite, fun speaks other => ?other, fun mute => ?mute⟩
  case token => rw [speaks, (s.token_iff a).mpr forPart]; rfl
  case invite =>
    subst invite
    rw [speaks, s.noteArrival_own, (Arrival.inviter_eq_some _ _ x).mpr rfl]
    rfl
  case other =>
    have notToken : ¬ a.isTokenFor (s.noteArrival a).ring.ownAddress = true :=
      fun is => ((s.token_iff a).mp is).elim fun x e => (other x).1 e
    rw [speaks, if_neg notToken, s.noteArrival_own, (a.inviter_eq_none _).mpr fun x => (other x).2]
    rfl
  case mute => rw [mute]; rfl

/-- Settles O40: the rules of JOINING and PASSING. -/
theorem arrivalsInJoiningAndPassing : Obligations.ArrivalsInJoiningAndPassing := by
  unfold Obligations.ArrivalsInJoiningAndPassing
  intro c a r s arrives takes go
  have token := s.token_iff a
  have named : (∃ x, a = .token x s.ring.ownAddress) → a ≠ .garbled := fun ⟨x, is⟩ => is ▸ nofun
  dsimp only
  refine ⟨fun joining => ?joining, fun passing => ?passing⟩
  case joining =>
    have fits : (a.isTokenFor (s.noteArrival a).ring.ownAddress && decide (a.source = (s.noteArrival a).ring.awaited)) = true ↔
        (∃ x, a = .token x s.ring.ownAddress) ∧ a.source ≠ none ∧ a.source = s.ring.awaited := by
      rw [Bool.and_eq_true, token, decide_eq_true_eq, s.noteArrival_awaited]
      exact and_congr_right fun ⟨x, is⟩ => (and_iff_right (is ▸ nofun)).symm
    rw [arrives.exec_of_rule takes (s.rule_joining a _ go joining), State.takeJoining]
    refine ⟨fun garbled => ?garbled, fun forPart awaited => ?answer, fun valid other => ?other⟩
    case garbled => rw [if_pos garbled]
    case answer => rw [if_neg (named forPart), if_pos (fits.mpr ⟨forPart, awaited⟩)]; rfl
    case other => rw [if_neg valid, if_neg (mt fits.mp other)]
  case passing =>
    have answers : (a.source.isSome && decide (a.source = (s.noteArrival a).ring.awaited)) = true ↔
        a.source ≠ none ∧ a.source = s.ring.awaited := by
      rw [Bool.and_eq_true, Option.isSome_iff_ne_none, decide_eq_true_eq, s.noteArrival_awaited]
    have known : a.source ≠ none → a ≠ .garbled := fun source is => source (is ▸ rfl)
    rw [arrives.exec_of_rule takes (s.rule_passing a _ go passing), State.takePassing]
    refine ⟨fun garbled => ?garbled, fun awaited forPart => ?token, fun awaited other => ?answer,
      fun stray forPart => ?stray, fun valid stray other => ?other⟩
    case garbled => rw [if_pos garbled]
    case token => rw [if_neg (named forPart), if_pos (answers.mpr awaited), if_pos (token.mpr forPart)]; rfl
    case answer => rw [if_neg (known awaited.1), if_pos (answers.mpr awaited), if_neg (mt token.mp other)]; rfl
    case stray => rw [if_neg (named forPart), if_neg (mt answers.mp stray), if_pos (token.mpr forPart)]; rfl
    case other => rw [if_neg valid, if_neg (mt answers.mp stray), if_neg (mt token.mp other)]

/-- A garbled frame leaves what the successor is found from, and so the gap (R65, R66). -/
theorem State.noteArrival_garbled (s : State) : (s.noteArrival .garbled).ring.alone = s.ring.alone ∧
    (s.noteArrival .garbled).ring.unanswered.inviteCursor =
      if s.ring.inGap (s.ring.inviteCursor + 1) then s.ring.inviteCursor + 1 else s.ring.ownAddress + 1 := by
  rw [s.noteArrival_eq]
  exact ⟨rfl, rfl⟩

/-- The awaited JOIN comes from the invited address to the part (R78). -/
theorem State.joinAnswers_iff (s : State) (a : Arrival) : (s.noteArrival a).ring.joinAnswers a = true ↔
    ∃ x, a = .join x s.ring.ownAddress ∧ s.ring.awaited = some x := by
  cases a
  case join y d =>
    rw [Ring.joinAnswers, s.noteArrival_awaited, s.noteArrival_own, Bool.and_eq_true, decide_eq_true_eq,
      decide_eq_true_eq]
    constructor
    · rintro ⟨awaited, rfl⟩
      exact ⟨y, rfl, awaited.symm⟩
    · rintro ⟨x, is, awaited⟩
      cases is
      exact ⟨awaited.symm, rfl⟩
  all_goals exact iff_of_false nofun fun ⟨_, is, _⟩ => nomatch is

/-- Settles O41: the rules of HOLDING and INVITING. -/
theorem arrivalsInHoldingAndInviting : Obligations.ArrivalsInHoldingAndInviting := by
  unfold Obligations.ArrivalsInHoldingAndInviting
  intro c a r s arrives takes go
  have token := s.token_iff a
  have named : (∃ x, a = .token x s.ring.ownAddress) → a ≠ .garbled := fun ⟨x, is⟩ => is ▸ nofun
  dsimp only
  refine ⟨fun holding => ?holding, fun inviting => ?inviting⟩
  case holding =>
    rw [arrives.exec_of_rule takes (s.rule_holding a _ go holding), State.takeHolding]
    refine ⟨fun garbled => ?garbled, fun forPart => ?token, fun valid other => ?other⟩
    case garbled => rw [if_pos garbled]
    case token => rw [if_neg (named forPart), if_pos (token.mpr forPart)]; rfl
    case other => rw [if_neg valid, if_neg (mt token.mp other)]
  case inviting =>
    have window : (!s.ring.window.isStopped) = true ↔ s.ring.window ≠ .stopped := by
      cases s.ring.window <;> simp [Timer.isStopped]
    have answers : ((!s.ring.window.isStopped) && (s.noteArrival a).ring.joinAnswers a) = true ↔
        s.ring.window ≠ .stopped ∧ ∃ x, a = .join x s.ring.ownAddress ∧ s.ring.awaited = some x := by
      rw [Bool.and_eq_true, window]
      exact and_congr_right fun _ => s.joinAnswers_iff a
    rw [arrives.exec_of_rule takes (s.rule_inviting a _ go inviting), State.takeInviting]
    refine ⟨fun garbled inWindow alone => ?pause, fun garbled inWindow inRing => ?cursor, fun garbled late => ?late,
      fun answer => ?answer, fun forPart => ?holds, fun valid stray other => ?yields⟩
    case pause =>
      subst garbled
      obtain ⟨same, next⟩ := s.noteArrival_garbled
      rw [if_pos rfl, if_pos (window.mpr inWindow), ← next]
      exact congrArg (fun t => Host.Outcome.next (State.handOnOf (State.reportLink t) r)) (if_pos (same.trans alone))
    case cursor =>
      subst garbled
      obtain ⟨same, next⟩ := s.noteArrival_garbled
      rw [if_pos rfl, if_pos (window.mpr inWindow), ← next]
      exact congrArg (fun t => Host.Outcome.next (State.handOnOf (State.reportLink t) r))
        (if_neg (Bool.eq_false_iff.mp (same.trans inRing)))
    case late => rw [if_pos garbled, if_neg (mt window.mp late)]
    case answer =>
      have valid : a ≠ .garbled := by
        obtain ⟨-, x, rfl, -⟩ := answer
        exact nofun
      rw [if_neg valid, if_pos (answers.mpr answer)]
      rfl
    case holds =>
      have stray : ¬ ((!s.ring.window.isStopped) && (s.noteArrival a).ring.joinAnswers a) = true := by
        obtain ⟨x, rfl⟩ := forPart
        simp [Ring.joinAnswers]
      rw [if_neg (named forPart), if_neg stray, if_pos (token.mpr forPart)]
      rfl
    case yields => rw [if_neg valid, if_neg (mt answers.mp stray), if_neg (mt token.mp other)]

/-- Settles O42: under a stop request, and in WITHDRAWN. -/
theorem arrivalsUnderStopAndWithdrawn : Obligations.ArrivalsUnderStopAndWithdrawn := by
  unfold Obligations.ArrivalsUnderStopAndWithdrawn
  intro c a r s arrives takes
  exact ⟨fun stop => arrives.exec_of_rule takes (s.rule_stop a _ stop),
    fun go withdrawn => arrives.exec_of_rule takes (s.rule_withdrawn a _ go withdrawn)⟩

/-! ### What every arrival does first (R42, R65, R67) -/

/-- What a rule of the ring controller keeps after an arrival's first effects: the node's table, options and scheduler
cursor, the settled window, a silence timer where the timers run, and the line but its receiver and request. -/
structure RuleKeeps (s t : State) : Prop where
  ring : t.ring = { s.ring with
    link := t.ring.link, awaited := t.ring.awaited, attempt := t.ring.attempt, inviteCursor := t.ring.inviteCursor
    inviteCountdown := t.ring.inviteCountdown, rotation := t.ring.rotation, unheard := t.ring.unheard
    stopRequest := t.ring.stopRequest, window := t.ring.window, silence := t.ring.silence, pause := t.ring.pause
    lastCondition := t.ring.lastCondition, lastSuccessor := t.ring.lastSuccessor }
  window : s.ring.window = .stopped → t.ring.window = .stopped
  silence : t.ring.link.runsTimers = true → t.ring.silence = s.ring.silence
  line : t.line = { s.line with receiver := t.line.receiver, waiting := t.line.waiting }
  receiver : t.line.receiver = s.line.receiver ∨ t.line.receiver = .stopped ∧ t.ring.link = .off
  active : t.lineActive = s.lineActive
  sched : t.sched.cursor = s.sched.cursor ∧ t.sched.snapshot = s.sched.snapshot

namespace RuleKeeps

variable {s t : State}

theorem refl (s : State) : RuleKeeps s s := ⟨rfl, id, fun _ => rfl, rfl, .inl rfl, rfl, rfl, rfl⟩

/-- A rule that ends where the ring timers go on running, the silence timer and the receiver as they were. -/
theorem of_going (h : t = { s with
    ring.link := t.ring.link, ring.awaited := t.ring.awaited, ring.attempt := t.ring.attempt
    ring.inviteCursor := t.ring.inviteCursor
    ring.inviteCountdown := t.ring.inviteCountdown, ring.rotation := t.ring.rotation, ring.unheard := t.ring.unheard
    ring.window := t.ring.window, ring.pause := t.ring.pause, line.waiting := t.line.waiting
    sched.holding := t.sched.holding, sched.framesLeft := t.sched.framesLeft
    sched.sendingOpen := t.sched.sendingOpen })
    (window : s.ring.window = .stopped → t.ring.window = .stopped) : RuleKeeps s t where
  ring := by rw [h]
  window := window
  silence := fun _ => by rw [h]
  line := by rw [h]
  receiver := by rw [h]; exact .inl rfl
  active := by rw [h]
  sched := by rw [h]; exact ⟨rfl, rfl⟩

theorem startHolding (s : State) (gap : Nat) : RuleKeeps s (s.startHolding gap) := .of_going rfl fun _ => rfl

theorem leaveTo (s : State) (link : LinkState) : RuleKeeps s (s.leaveTo link) := .of_going rfl id

theorem await (s : State) (w : Option Waiting) : RuleKeeps s (s.await w) := .of_going rfl id

theorem unheardTo (s : State) (link : LinkState) : RuleKeeps s (s.unheardTo link) := by
  unfold State.unheardTo
  split
  · exact ⟨rfl, fun _ => rfl, nofun, rfl, .inl rfl, rfl, rfl, rfl⟩
  · exact .of_going rfl id

theorem reachOff (s : State) : RuleKeeps s s.reachOff :=
  ⟨rfl, fun _ => rfl, nofun, rfl, .inr ⟨rfl, rfl⟩, rfl, rfl, rfl⟩

theorem reported (h : RuleKeeps s t) : RuleKeeps s t.reportLink := by
  cases changed : t.ring.changed with
  | false => rw [State.reportLink_same changed]; exact h
  | true =>
    rw [State.reportLink_changed changed]
    refine ⟨?_, h.window, h.silence, h.line, h.receiver, h.active, h.sched⟩
    show { t.ring with lastCondition := t.ring.condition, lastSuccessor := t.ring.successor } = _
    rw [h.ring]
    rfl

theorem takeIdle (s : State) (a : Arrival) : RuleKeeps s (s.takeIdle a) := by
  unfold State.takeIdle
  split
  · exact .refl s
  · split
    · exact startHolding s _
    · split <;> exact await s _

theorem takeJoining (s : State) (a : Arrival) : RuleKeeps s (s.takeJoining a) := by
  unfold State.takeJoining
  split
  · exact leaveTo s _
  · split
    · exact .of_going rfl fun _ => rfl
    · exact unheardTo s _

theorem takeHolding (s : State) (a : Arrival) : RuleKeeps s (s.takeHolding a) := by
  unfold State.takeHolding
  split
  · exact leaveTo s _
  · split
    · exact startHolding s _
    · exact unheardTo s _

theorem takeInviting (s : State) (a : Arrival) (inWindow : Bool) : RuleKeeps s (s.takeInviting a inWindow) := by
  unfold State.takeInviting
  split
  · split
    · dsimp only; split <;> exact .of_going rfl id
    · exact .refl s
  · split
    · exact await s _
    · split
      · exact startHolding s _
      · exact unheardTo s _

theorem takePassing (s : State) (a : Arrival) : RuleKeeps s (s.takePassing a) := by
  unfold State.takePassing
  split
  · exact leaveTo s _
  · split
    · split
      · exact .of_going rfl fun _ => rfl
      · exact .of_going rfl id
    · split
      · exact startHolding s _
      · exact unheardTo s _

theorem takeByLink (s : State) (a : Arrival) (inWindow : Bool) : RuleKeeps s (s.takeByLink a inWindow) := by
  unfold State.takeByLink
  split
  · exact reachOff s
  · split
    case h_2 | h_4 => exact takeIdle s a
    case h_3 => exact takeJoining s a
    case h_5 => exact takeHolding s a
    case h_6 => exact takeInviting s a inWindow
    case h_7 => exact takePassing s a
    case h_1 | h_8 => exact .refl s

end RuleKeeps

/-- An arrival taken keeps, after its first effects, what the rules keep. -/
theorem RuleKeeps.arrive (hears : s.hears = true) (a : Arrival) : RuleKeeps (s.noteArrival a) (s.arrive a) := by
  rw [State.arrive, if_pos hears]
  exact (RuleKeeps.takeByLink _ a _).reported

/-- Handing a request on, or none, touches only the filing path and the claims at the slot table (R45). -/
theorem State.handOnOf_eq (s : State) (r : Option FilingRequest) : s.handOnOf r = { s with
    filing := if r = none then s.filing else r, claims := if r = none then s.claims else s.claims ++ [.filing] } := by
  cases r <;> rfl

/-- Settles O37: the marks, the timers, the line, and all that an arrival leaves. -/
theorem arrivalMarksSource : Obligations.ArrivalMarksSource := by
  unfold Obligations.ArrivalMarksSource
  intro c a r s arrives takes
  refine ⟨_, arrives.exec_eq takes, ?_⟩
  have kept := RuleKeeps.arrive takes.1 a
  have moved := (s.arrive_move a).frame
  have noted := s.noteArrival_eq a
  generalize s.arrive a = t at kept moved
  have filing : t.filing = s.filing := (congrArg State.filing moved).trans rfl
  have claims : t.claims = s.claims := (congrArg State.claims moved).trans rfl
  rw [State.handOnOf_eq]
  refine ⟨fun b => ?marks, ?clash, fun runs goes => ?silence, kept.window (by rw [noted]), ?line, fun on => ?hunts,
    ?deaf, ?active, ?own, ?budget, ?interval, ?listenOnly, ?selfFiling, ?cursor, ?snapshot, ?engine, ?events, ?regs,
    ?resetLow, ?accessCount, ?slots, ?counter, fun none => ?keeps, fun some => ?handsOn⟩
  case marks =>
    have map : t.ring.liveMap = (s.noteArrival a).ring.liveMap := (congrArg Ring.liveMap kept.ring).trans rfl
    dsimp only
    rw [map, noted]
    dsimp only
    cases a.source with
    | none => simp
    | some x => simp [marked_setMark]
  case clash =>
    refine (congrArg Ring.clash kept.ring).trans ?_
    rw [noted]
  case silence =>
    refine (kept.silence goes).trans ?_
    rw [noted]
    refine if_neg fun stopped => ?_
    rcases stopped with link | link <;> rw [link] at runs <;> exact absurd runs (by decide)
  case line =>
    refine kept.line.trans ?_
    rw [noted]
  case hunts =>
    rcases kept.receiver with same | ⟨-, off⟩
    · exact same.trans (by rw [noted])
    · exact absurd off on
  case deaf =>
    have receiver : t.line.receiver ≠ .assembling := by
      rcases kept.receiver with same | ⟨stopped, -⟩
      · rw [same, noted]
        exact nofun
      · rw [stopped]
        exact nofun
    show t.hears = false
    rw [State.hears, decide_eq_false receiver, Bool.false_and]
  case active => exact kept.active.trans (by rw [noted])
  case own => exact (congrArg Ring.ownAddress kept.ring).trans (s.noteArrival_own a)
  case budget => exact (congrArg Ring.budget kept.ring).trans (by rw [noted])
  case interval => exact (congrArg Ring.inviteInterval kept.ring).trans (by rw [noted])
  case listenOnly => exact (congrArg Ring.listenOnly kept.ring).trans (s.noteArrival_listenOnly a)
  case selfFiling => exact (congrArg Ring.selfFiling kept.ring).trans (by rw [noted])
  case cursor => exact kept.sched.1
  case snapshot => exact kept.sched.2
  case engine => exact (congrArg State.engine moved).trans rfl
  case events => exact (congrArg State.events moved).trans rfl
  case regs => exact (congrArg State.regs moved).trans rfl
  case resetLow => exact (congrArg State.resetLow moved).trans rfl
  case accessCount => exact (congrArg State.accessCount moved).trans rfl
  case slots => exact (congrArg State.slots moved).trans rfl
  case counter => exact (congrArg State.filingCounter moved).trans rfl
  case keeps => exact ⟨(if_pos none).trans filing, (if_pos none).trans claims⟩
  case handsOn => exact ⟨if_neg some, (if_neg some).trans (by rw [claims])⟩

end Sys2Proof.Machine
end

section
/-!
PROOFS. The claims at the slot table, and the two filings (R7 to R9, R45 to R57).
-/
namespace Sys2Proof.Machine

variable {s : State}

/-! ### The claims (R9, R148) -/

theorem State.waitKind_claimed_iff (s : State) :
    s.waitKind = some .claimed ↔ ∃ w, s.line.waiting = some w ∧ w.kind = .claimed := by
  rw [State.waitKind, Option.map_eq_some_iff]

/-- A find-and-snapshot stands to be taken (R9). -/
theorem State.snapshotDue_iff_request (s : State) : s.snapshotDue = true ↔
    (∃ w, s.line.waiting = some w ∧ w.kind = .claimed) ∧ s.sched.snapshot = none ∧ s.line.ringFrame = none := by
  rw [s.snapshotDue_iff, s.waitKind_claimed_iff, quiet_iff]

/-- Settles O43: the turn, the request handed on, and the event writer's look. -/
theorem claimsTakenInOrder : Obligations.ClaimsTakenInOrder := by
  unfold Obligations.ClaimsTakenInOrder
  intro s
  refine ⟨fun c => ?turn, s.handOn_eq, ?look⟩
  case turn =>
    rw [s.turn_iff, ← Bool.not_eq_true, s.snapshotDue_iff_request]
    refine and_congr ?_ Iff.rfl
    cases s.claims <;> simp
  case look =>
    have ready := s.slotNoticeReady_of_mayWrite
    dsimp only
    rw [s.lookForNotice_eq]
    refine ⟨fun ⟨free, listed, running, room, undone, no⟩ unclaimed => ?claims, fun stays => ?stays⟩
    case claims => rw [if_pos ⟨ready.mpr ⟨⟨free, running, room, undone, no⟩, listed⟩, unclaimed⟩]; rfl
    case stays =>
      refine congrArg s.withClaims (if_neg fun ⟨is, unclaimed⟩ => ?_)
      obtain ⟨⟨free, running, room, undone, no⟩, listed⟩ := ready.mp is
      exact stays.elim (fun not => not ⟨free, listed, running, room, undone, no⟩) unclaimed

/-! ### The filings (R47 to R57) -/

/-- A slot takes a DATA frame: it is no locked depot member, in service, SUBSCRIBE, of a matching key (R7, R47). -/
theorem Slot.takesData_iff (x : Slot) (key : Key) : x.takesData key = true ↔
    x.inService = true ∧ x.role = .subscribe ∧ x.matchesKey key = true ∧ ¬(x.depotEnd = false ∧ x.fresh = true) := by
  unfold Slot.takesData Slot.locked
  cases x.inService <;> cases x.depotEnd <;> simp [and_assoc]

/-- A slot takes a SOLICIT frame: it is in service, PUBLISH, of a matching key (R54). -/
theorem Slot.takesSolicit_iff (x : Slot) (key : Key) : x.takesSolicit key = true ↔
    x.inService = true ∧ x.role = .publish ∧ x.matchesKey key = true := by
  simp [Slot.takesSolicit, and_assoc]

/-- The whole of a frame's payload, and zero bytes after it (R49). -/
theorem padData_length (payload : List Byte) :
    padData payload payload.length = Vector.ofFn fun i : Fin 16 => payload.getD i.val 0 := by
  unfold padData
  congr 1
  funext i
  split
  · rfl
  · next high => exact (List.getD_eq_default _ _ (Nat.le_of_not_lt high)).symm

/-- A filing's scan finds no slot. -/
theorem firstSlot_none_of {p : Slot → Bool} {takes : SlotId → Prop} (iff : ∀ k, p s.slots[k] = true ↔ takes k)
    (no : ∀ k, ¬ takes k) : firstSlot p s.slots = none :=
  firstSlot_eq_none.mpr fun k => Bool.eq_false_iff.mpr (mt (iff k).mp (no k))

/-- A filing's scan finds the first slot that takes the frame. -/
theorem firstSlot_some_of {p : Slot → Bool} {takes : SlotId → Prop} (iff : ∀ k, p s.slots[k] = true ↔ takes k)
    {k : SlotId} (here : takes k) (first : ∀ j, j < k → ¬ takes j) : firstSlot p s.slots = some k :=
  firstSlot_eq_some ((iff k).mpr here) fun j before => Bool.eq_false_iff.mpr (mt (iff j).mp (first j before))

/-- A slot with notify set joins the back of the notice list, unless it is in it (R57). -/
theorem State.callNotice_of_notify (s : State) (k : SlotId) (notify : Bool) :
    (if notify then s.callNotice k else s) = s.withNoticeList
      (if notify = true ∧ k ∉ s.events.noticeList then s.events.noticeList ++ [k] else s.events.noticeList) := by
  cases notify with
  | false => rfl
  | true =>
    rw [if_pos rfl, State.callNotice, joinNotice]
    by_cases listed : k ∈ s.events.noticeList <;> simp [listed]

/-- Settles O45: the dropped, the discarded and the filed frame. -/
theorem dataFiling : Obligations.DataFiling := by
  unfold Obligations.DataFiling
  intro s source key payload request turn
  dsimp only
  have runs : exec .fileData s = .next (s.takeFiling.fileData source key payload).lookForNotice := by
    rw [exec_fileData, execFileData, request]
    exact congrArg _ (if_pos turn)
  have iff (k : SlotId) := s.slots[k].takesData_iff key
  rw [runs, State.fileData]
  refine ⟨fun no => ?dropped, fun k takes first => ?taken⟩
  case dropped => rw [show firstSlot _ s.takeFiling.slots = none from firstSlot_none_of iff no]; rfl
  case taken =>
    rw [show firstSlot _ s.takeFiling.slots = some k from firstSlot_some_of iff takes first]
    dsimp only
    have same : s.takeFiling.slots = s.slots := rfl
    rw [State.callNotice_of_notify, same]
    refine ⟨fun keeps => ?discarded, fun files => ?filed⟩
    case discarded =>
      rw [if_pos (Bool.and_eq_true_iff.mpr keeps)]
      rfl
    case filed =>
      rw [if_neg (mt Bool.and_eq_true_iff.mp files), Slot.filed, padData_length]
      rfl

/-- Settles O46: the dropped frame, the answer, the notice, and neither. -/
theorem solicitFiling : Obligations.SolicitFiling := by
  unfold Obligations.SolicitFiling
  intro s source key request turn
  dsimp only
  have runs : exec .fileSolicit s = .next (s.takeFiling.fileSolicit key).lookForNotice := by
    rw [exec_fileSolicit, execFileSolicit, request]
    exact congrArg _ (if_pos turn)
  have iff (k : SlotId) := s.slots[k].takesSolicit_iff key
  rw [runs, State.fileSolicit]
  refine ⟨fun no => ?dropped, fun k takes first => ?taken⟩
  case dropped => rw [show firstSlot _ s.takeFiling.slots = none from firstSlot_none_of iff no]; rfl
  case taken =>
    rw [show firstSlot _ s.takeFiling.slots = some k from firstSlot_some_of iff takes first]
    refine ⟨fun answer => ?answer, fun mute notify => ?notify, fun mute quiet => ?neither⟩
    case answer => exact congrArg (fun t => Host.Outcome.next (State.lookForNotice t)) (if_pos answer)
    case notify =>
      refine congrArg (fun t => Host.Outcome.next (State.lookForNotice t)) ?_
      exact (if_neg (Bool.eq_false_iff.mp mute)).trans (if_pos notify)
    case neither =>
      refine congrArg (fun t => Host.Outcome.next (State.lookForNotice t)) ?_
      exact (if_neg (Bool.eq_false_iff.mp mute)).trans (if_neg (Bool.eq_false_iff.mp quiet))

end Sys2Proof.Machine
end

section
/-!
PROOFS. The ring timers' expiries, and the part's own frames: their opportunities, starts and ends (R36 to R41, R68 to
R103).
-/
namespace Sys2Proof.Machine

variable {s : State}

/-- Equal states end a row alike. -/
theorem next_reportLink {t u : State} (same : t = u) :
    (.next t.reportLink : Host.Outcome State Fault Refusal) = .next u.reportLink := by
  rw [same]

/-! ### The timers (R39 to R41, R68, R71, R77, R78, R80, R81) -/

/-- The silence timer's expiry, when it has counted its bit times (R40). -/
theorem exec_silenceTimeout_of {n : Nat} (runs : s.ring.silence = .running n)
    (full : (64 + 16 * s.ring.ownAddress.toNat) * s.line.divider ≤ n) :
    exec .silenceTimeout s = .next s.restartSilence.silenceExpired.reportLink := by
  rw [exec_silenceTimeout, execSilenceTimeout, if_pos (s.rowDue_silenceTimeout.mp ⟨n, runs, full⟩)]

/-- A silence expiry in LISTEN or MEMBER is a claim, unless the part only listens (R68, R69, R72). -/
theorem State.silenceExpired_claims (link : s.ring.link = .listen ∨ s.ring.link = .member)
    (speaks : s.ring.listenOnly = false) : s.restartSilence.silenceExpired = s.restartSilence.claim := by
  have same : s.restartSilence.ring.link = s.ring.link := rfl
  rw [State.silenceExpired, same]
  rcases link with link | link
  · rw [link]
    exact if_neg (Bool.eq_false_iff.mp speaks)
  · rw [link]

/-- Settles O47: the claim, the timer restarted only, and the end of the lone pause. -/
theorem silenceExpiryAndPauseEnd : Obligations.SilenceExpiryAndPauseEnd := by
  unfold Obligations.SilenceExpiryAndPauseEnd
  intro s n
  refine ⟨fun runs full link speaks => ?claims, fun runs full link mute => ?mute, fun runs full listen member => ?busy,
    fun runs full => ?pause⟩
  case claims =>
    rw [exec_silenceTimeout_of runs full, State.silenceExpired_claims link speaks]
    rfl
  case mute =>
    rw [exec_silenceTimeout_of runs full, State.silenceExpired, show s.restartSilence.ring.link = _ from link]
    exact next_reportLink (if_pos mute)
  case busy =>
    have stays : s.restartSilence.silenceExpired = s.restartSilence := by
      rw [State.silenceExpired, show s.restartSilence.ring.link = s.ring.link from rfl]
      cases link : s.ring.link
      case listen => exact absurd link listen
      case member => exact absurd link member
      all_goals rfl
    rw [exec_silenceTimeout_of runs full, stays]
    rfl
  case pause =>
    rw [exec_lonePauseEnd, execLonePauseEnd, if_pos (s.rowDue_lonePauseEnd.mp ⟨n, runs, full⟩)]

/-- The response window's expiry, when it has counted its bit times (R39). -/
theorem exec_responseWindowExpiry_of {n : Nat} (runs : s.ring.window = .running n) (full : 24 * s.line.divider ≤ n) :
    exec .responseWindowExpiry s =
      .next (State.windowExpired { s with ring.window := .stopped }).reportLink := by
  rw [exec_responseWindowExpiry, execResponseWindowExpiry,
    if_pos (s.rowDue_responseWindowExpiry.mp ⟨n, runs, full⟩)]
  rfl

/-- An INVITE's window that expires leads to a TOKEN to the successor (R78). -/
theorem State.inviteExpired_next {d : Addr} (next : s.ring.successor = some d) : s.inviteExpired =
    State.passToken { s with ring.inviteCursor := s.ring.advanceCursor } d .first := by
  rw [State.inviteExpired, next]
  rfl

/-- Alone, it leads to the lone pause (R78, R81). -/
theorem State.inviteExpired_alone (alone : s.ring.successor = none) : s.inviteExpired =
    { s with
      ring.inviteCursor := s.ring.advanceCursor, ring.link := .holding, ring.awaited := none
      ring.pause := .running 0 } := by
  rw [State.inviteExpired, alone]
  rfl

/-- The first attempt of a pass is repeated (R80). -/
theorem State.passExpired_first {d : Addr} (awaits : s.ring.awaited = some d) (first : s.ring.attempt = .first) :
    s.passExpired = s.passToken d .second := by
  rw [State.passExpired, first, awaits]

/-- The second one clears the awaited node's mark (R80). -/
theorem State.passExpired_second (second : s.ring.attempt = .second) : s.passExpired = s.passFailed := by
  rw [State.passExpired, second]

/-- A failed pass goes to the successor found without the awaited node (R80). -/
theorem State.passExpired_next {d e : Addr} (awaits : s.ring.awaited = some d) (second : s.ring.attempt = .second)
    (next : successorOf s.ring.ownAddress (clearMark s.ring.liveMap d) = some e) :
    s.passExpired = State.passToken { s with ring.liveMap := clearMark s.ring.liveMap d } e .first := by
  have successor : (s.withRing s.ring.clearAwaited).ring.successor = some e := by
    rw [Ring.clearAwaited, awaits]
    exact next
  rw [State.passExpired_second second, State.passFailed]
  dsimp only
  rw [successor, Ring.clearAwaited, awaits]
  rfl

/-- With no other node known, a failed pass ends in a new holding (R80). -/
theorem State.passExpired_alone {d : Addr} (awaits : s.ring.awaited = some d) (second : s.ring.attempt = .second)
    (alone : successorOf s.ring.ownAddress (clearMark s.ring.liveMap d) = none) :
    s.passExpired = State.startHolding { s with ring.liveMap := clearMark s.ring.liveMap d } 0 := by
  have successor : (s.withRing s.ring.clearAwaited).ring.successor = none := by
    rw [Ring.clearAwaited, awaits]
    exact alone
  rw [State.passExpired_second second, State.passFailed]
  dsimp only
  rw [successor, Ring.clearAwaited, awaits]
  rfl

/-- Settles O48: the expiry in each link state. -/
theorem responseWindowExpiry : Obligations.ResponseWindowExpiry := by
  unfold Obligations.ResponseWindowExpiry
  intro s n runs full
  dsimp only
  rw [exec_responseWindowExpiry_of runs full, State.windowExpired]
  refine ⟨fun link => ?joining, fun d link next => ?inviting, fun link alone => ?alone, fun d link awaits first => ?first,
    fun d link awaits second => ?second, fun others => ?others⟩
  case joining => dsimp only; rw [link]
  case inviting =>
    dsimp only
    rw [link]
    exact next_reportLink (State.inviteExpired_next next)
  case alone =>
    dsimp only
    rw [link]
    exact next_reportLink (State.inviteExpired_alone alone)
  case first =>
    dsimp only
    rw [link]
    exact next_reportLink (State.passExpired_first awaits first)
  case second =>
    dsimp only
    rw [link]
    exact ⟨fun e next => next_reportLink (State.passExpired_next awaits second next),
      fun alone => next_reportLink (State.passExpired_alone awaits second alone)⟩
  case others =>
    dsimp only
    cases link : s.ring.link
    case joining => rw [link] at others; exact nomatch others
    case inviting => rw [link] at others; exact nomatch others
    case passing => rw [link] at others; exact nomatch others
    all_goals rfl

/-! ### Sending (R36, R37, R74, R76, R77, R92 to R97) -/

/-- The opportunity that has come (R92). -/
theorem State.opportunityDue_of {w : Waiting} (waits : s.line.waiting = some w) (kind : w.kind = .opportunity)
    (holds : s.sched.holding = true) (opens : s.sched.sendingOpen = true) (go : s.sched.stopRequest = false)
    (quiet : s.transmitting = false) : s.opportunityDue = true ↔
      w.gap * s.line.divider ≤ w.elapsed ∧ s.line.receiver ≠ .assembling := by
  have come := State.startTimeCome_iff waits
  rw [State.opportunityDue, State.waitKind_some waits, kind, holds, opens, go]
  simp [come, quiet]

/-- Settles O49: the opportunity that waits, and the one that claims. -/
theorem sendOpportunity : Obligations.SendOpportunity := by
  unfold Obligations.SendOpportunity
  intro s w waits kind holds opens go quiet
  have due := State.opportunityDue_of waits kind holds opens go quiet
  rw [exec_sendOpportunity, execSendOpportunity]
  refine ⟨fun early => ?waits, fun come idle left => ?claims⟩
  case waits =>
    refine congrArg _ (if_neg fun is => ?_)
    obtain ⟨come, idle⟩ := due.mp is
    exact early.elim (Nat.not_lt_of_le come) idle
  case claims =>
    rw [if_pos (due.mpr ⟨come, idle⟩), if_neg left, waits]
    rfl

/-- Sending ends at an opportunity with no frames left, and at a scan that finds no slot (R92, R93, R97). -/
theorem exec_of_ends {w : Waiting} (waits : s.line.waiting = some w) (quiet : s.transmitting = false)
    (ends : (w.kind = .opportunity ∧ s.sched.holding = true ∧ s.sched.sendingOpen = true ∧
        s.sched.stopRequest = false ∧ w.gap * s.line.divider ≤ w.elapsed ∧ s.line.receiver ≠ .assembling ∧
        s.sched.framesLeft = 0) ∨
      (w.kind = .claimed ∧ ∀ k : SlotId, ¬ (s.slots[k].inService = true ∧ s.slots[k].sendPending = true))) :
    exec (if w.kind = .opportunity then .sendOpportunity else .findAndSnapshot) s =
      .next s.sendingEnded.reportLink := by
  rcases ends with ⟨kind, holds, opens, go, come, idle, none⟩ | ⟨kind, empty⟩
  · have due := (State.opportunityDue_of waits kind holds opens go quiet).mpr ⟨come, idle⟩
    rw [if_pos kind, exec_sendOpportunity, execSendOpportunity, if_pos due, if_pos none]
  · have due : s.snapshotDue = true := s.snapshotDue_iff.mpr ⟨(State.waitKind_some waits).trans (by rw [kind]), quiet⟩
    have found : findPending s.sched.cursor s.slots = .none :=
      findPending_eq_none.mpr fun k => Bool.eq_false_iff.mpr (mt Bool.and_eq_true_iff.mp (empty k))
    rw [if_neg (by rw [kind]; exact nofun), exec_findAndSnapshot, execFindAndSnapshot, if_pos due, found]

/-- An invite is due when the part is alone, or its countdown has run out (R76). -/
theorem Ring.inviteDue_iff (r : Ring) :
    r.inviteDue = true ↔ r.alone = true ∨ (r.inviteInterval ≠ 0 ∧ r.inviteCountdown = 0) := by
  simp [Ring.inviteDue]

/-- The gap is empty when its first address does not lie in it (R66). -/
theorem Ring.gapEmpty_eq (r : Ring) : r.gapEmpty = !r.inGap (r.ownAddress + 1) := rfl

/-- A due invite with a gap begins (R74). -/
theorem State.sendingEnded_invite (due : s.ring.inviteDue = true) (gap : s.ring.gapEmpty = false) :
    s.sendingEnded = State.beginInvite { s with sched.sendingOpen := false } := by
  rw [State.sendingEnded]
  exact if_pos (by rw [due, gap]; rfl)

/-- Otherwise a TOKEN to the successor begins, the countdown reloaded when an invite is due (R74, R76). -/
theorem State.sendingEnded_token {d : Addr} (none : (s.ring.inviteDue && !s.ring.gapEmpty) = false)
    (next : s.ring.successor = some d) : s.sendingEnded = State.passToken
      (if s.ring.inviteDue then
        { s with sched.sendingOpen := false, ring.inviteCountdown := s.ring.reloadCountdown }
      else { s with sched.sendingOpen := false }) d .first := by
  rw [State.sendingEnded]
  dsimp only
  rw [if_neg (Bool.eq_false_iff.mp none), next]
  rfl

/-- Settles O50: the INVITE, and the TOKEN with an invite due or not. -/
theorem endOfSending : Obligations.EndOfSending := by
  unfold Obligations.EndOfSending
  intro s w waits quiet
  refine ⟨fun ends due gap => ?invite, fun d ends due full next => ?full, fun d ends idle next => ?token⟩
  case invite =>
    rw [exec_of_ends waits quiet ends, State.sendingEnded_invite (s.ring.inviteDue_iff.mpr due)
      (by rw [Ring.gapEmpty_eq, gap]; rfl), State.beginInvite, Timer.release_eq]
    rfl
  case full =>
    have due := s.ring.inviteDue_iff.mpr due
    have together : s.ring.alone = false := by rw [Ring.alone, next]; rfl
    rw [exec_of_ends waits quiet ends, State.sendingEnded_token (by rw [Ring.gapEmpty_eq, full, due]; rfl) next, if_pos due,
      Ring.reloadCountdown, together]
    rfl
  case token =>
    have idle := mt s.ring.inviteDue_iff.mp idle
    rw [exec_of_ends waits quiet ends, State.sendingEnded_token (by rw [Bool.eq_false_iff.mpr idle]; rfl) next,
      if_neg idle]

/-- The snapshot of a slot: its key, and DATA for PUBLISH or SOLICIT for SUBSCRIBE (R16, R94). -/
theorem Slot.snapshot_eq (x : Slot) (k : SlotId) : x.snapshot k =
    { slot := k, key := x.key, body := match x.role with | .publish => .data x.length x.data | .subscribe => .solicit } := by
  rw [Slot.snapshot]
  cases x.role <;> rfl

/-- The waiting confirm-SENDs on the slot are attached to its frame (R95). -/
theorem State.reportFrameStarted_eq (s : State) (k : SlotId) : s.reportFrameStarted k =
    s.withOpenList (s.engine.openList.map fun e =>
      if e.state = .waiting ∧ e.code = CommandCode.send.byte ∧ e.slot = some k then { e with state := .attached }
      else e) := by
  simp only [State.reportFrameStarted, Entry.waitsOn, Entry.waitsAs, Bool.and_eq_true, decide_eq_true_eq, and_assoc]

/-- The attached confirm-SENDs on the slot are SENT (R96). -/
theorem State.reportFrameSent_eq (s : State) (k : SlotId) : s.reportFrameSent k =
    s.withOpenList (s.engine.openList.map fun e =>
      if e.state = .attached ∧ e.slot = some k then { e with state := doneWith .sent } else e) := by
  simp only [State.reportFrameSent, finishWhere, Entry.attachedOn, Bool.and_eq_true, decide_eq_true_eq]
  rfl

/-- Settles O51: the slot found, its snapshot, and what the frame's start does. -/
theorem findAndSnapshot : Obligations.FindAndSnapshot := by
  unfold Obligations.FindAndSnapshot
  intro s w k waits kind quiet inService pending first
  have due : s.snapshotDue = true := s.snapshotDue_iff.mpr ⟨(State.waitKind_some waits).trans (by rw [kind]), quiet⟩
  have found : findPending s.sched.cursor s.slots = some k :=
    findPending_eq_some (by rw [inService, pending]; rfl)
      fun j before => Bool.eq_false_iff.mpr (mt Bool.and_eq_true_iff.mp (first j before))
  rw [exec_findAndSnapshot, execFindAndSnapshot, if_pos due, found]
  dsimp only
  rw [State.startSlotFrame, Timer.release_eq, Slot.snapshot_eq, State.reportFrameStarted_eq]
  rfl

/-! ### The ring controller's frames begin (R36, R37, R70, R78, R86) -/

/-- A request of the ring controller whose start time has come (R37). -/
theorem exec_ringFrameStart_of {w : Waiting} (waits : s.line.waiting = some w) (quiet : s.transmitting = false)
    (come : w.gap * s.line.divider ≤ w.elapsed ∧ s.line.receiver ≠ .assembling)
    (frame : (∃ a, w.kind = .join a) ∨ w.kind = .token ∧ s.ring.successor ≠ none) :
    exec .ringFrameStart s = .next (s.startRequested w) := by
  have due := s.rowDue_ringFrameStart.mp ⟨w, waits, ⟨come.1, come.2, quiet⟩, frame⟩
  rw [exec_ringFrameStart, execRingFrameStart, waits]
  exact congrArg _ (if_pos due)

/-- The receiver is not assembling as a request's start time comes: the frame's begin leaves it as it is. -/
theorem LineUnit.beginFrame_idle {l : LineUnit} (idle : l.receiver ≠ .assembling) (f : Option RingFrame) :
    l.beginFrame f = { l with ringFrame := f, txClocks := 0, waiting := none } := by
  rw [LineUnit.beginFrame, if_neg idle]

/-- The TOKEN goes to the successor: with no stop request the link enters PASSING, under one it does not (R78, R86). -/
theorem State.beginToken_go {d : Addr} (next : s.ring.successor = some d) (go : s.ring.stopRequest = false) :
    s.beginToken = s.passToken d .first := by
  rw [State.beginToken, next]
  exact if_neg (Bool.eq_false_iff.mp go)

theorem State.beginToken_stop {d : Addr} (next : s.ring.successor = some d) (stop : s.ring.stopRequest = true) :
    s.beginToken = s.endHolding.beginRingFrame .token d := by
  rw [State.beginToken, next]
  exact if_pos stop

/-- Settles O52: the request that waits, the JOIN, and the TOKEN with a stop request and without. -/
theorem ringFrameStarts : Obligations.RingFrameStarts := by
  unfold Obligations.RingFrameStarts
  intro s w waits quiet
  dsimp only
  refine ⟨fun early => ?waits, fun a join come => ?join, fun d token come next go => ?token,
    fun d token come next stop => ?stopped⟩
  case waits =>
    have notDue : ¬ s.ringStartDue = true := by
      rw [← s.rowDue_ringFrameStart]
      rintro ⟨v, is, ⟨come, idle, -⟩, -⟩
      cases waits.symm.trans is
      exact early ⟨come, idle⟩
    rw [exec_ringFrameStart, execRingFrameStart, waits]
    exact congrArg _ (if_neg notDue)
  case join =>
    rw [exec_ringFrameStart_of waits quiet come (.inl ⟨a, join⟩), State.startRequested, join]
    dsimp only
    rw [State.beginJoin, State.beginRingFrame, LineUnit.beginFrame_idle come.2, Timer.release_eq]
    rfl
  case token =>
    rw [exec_ringFrameStart_of waits quiet come (.inr ⟨token, by rw [next]; exact nofun⟩), State.startRequested, token]
    dsimp only
    rw [State.beginToken_go next go]
  case stopped =>
    rw [exec_ringFrameStart_of waits quiet come (.inr ⟨token, by rw [next]; exact nofun⟩), State.startRequested, token]
    dsimp only
    rw [State.beginToken_stop next stop, State.beginRingFrame,
      LineUnit.beginFrame_idle (show s.endHolding.line.receiver ≠ _ from come.2), Timer.release_eq]
    rfl

/-! ### The part's frames end (R36, R37, R39, R40, R58, R69, R86, R96, R103) -/

/-- In a link state that runs the ring timers, the silence timer restarts (R40). -/
theorem Ring.restartSilence_of {r : Ring} (on : r.link ≠ .off) (up : r.link ≠ .withdrawn) :
    r.restartSilence = { r with silence := .running 0 } := by
  rw [Ring.restartSilence_eq, if_neg (not_or.mpr ⟨on, up⟩)]

/-- What a stop's last frame leads to (R86). -/
theorem State.afterStoppedFrame_alone (alone : s.ring.alone = true) : s.afterStoppedFrame = s.reachOff := if_pos alone

theorem State.afterStoppedFrame_next (alone : s.ring.alone = false) :
    s.afterStoppedFrame = s.await (some { kind := .token, gap := 4, elapsed := 0 }) :=
  if_neg (Bool.eq_false_iff.mp alone)

theorem State.finishRingFrame_go (go : s.ring.stopRequest = false) (kind : RingFrameKind) :
    s.finishRingFrame kind = (s.endRingFrame.ringFrameEnded kind).reportLink :=
  congrArg State.reportLink (if_neg (Bool.eq_false_iff.mp go))

theorem State.finishRingFrame_stop (stop : s.ring.stopRequest = true) (kind : RingFrameKind) :
    s.finishRingFrame kind = (s.endRingFrame.stoppedFrameEnded kind).reportLink :=
  congrArg State.reportLink (if_pos stop)

/-- Settles O54: the ends of a CLAIM, of the frames answered, and of those a stop request finishes. -/
theorem ringFrameEnds : Obligations.RingFrameEnds := by
  unfold Obligations.RingFrameEnds
  intro s f sending on up sent
  have due := s.rowDue_ringFrameEnd.mp ⟨by rw [sending]; exact nofun, sent⟩
  have ended : s.endRingFrame = { s with
      line.ringFrame := none, line.idleClocks := 0, line.gapClocks := 0, ring.silence := .running 0 } := by
    rw [State.endRingFrame, Ring.restartSilence_of on up]
    rfl
  have runs : exec .ringFrameEnd s = .next (s.finishRingFrame f.kind) := by
    rw [exec_ringFrameEnd, execRingFrameEnd, sending]
    exact congrArg _ (if_pos due)
  dsimp only
  rw [runs, ← ended]
  refine ⟨fun go claim => ?claim, fun go answered => ?answered, fun stop last => ?off, fun stop opens together => ?token⟩
  case claim => rw [State.finishRingFrame_go go, claim, ended]; rfl
  case answered =>
    rw [State.finishRingFrame_go go, ended]
    cases kind : f.kind
    case claim => exact absurd kind answered
    all_goals rfl
  case off =>
    rw [State.finishRingFrame_stop stop]
    refine next_reportLink ?_
    rw [ended]
    cases kind : f.kind
    case claim => exact State.afterStoppedFrame_alone (last.resolve_left (not_not_intro (.inl kind)))
    case invite => exact State.afterStoppedFrame_alone (last.resolve_left (not_not_intro (.inr kind)))
    all_goals rfl
  case token =>
    have follows : State.stoppedFrameEnded s.endRingFrame f.kind = s.endRingFrame.afterStoppedFrame := by
      rcases opens with kind | kind <;> rw [kind] <;> rfl
    rw [State.finishRingFrame_stop stop, follows, ended]
    exact next_reportLink (State.afterStoppedFrame_next together)

/-- A slot's frame that has been sent to its end, handed to the filing path under self-filing (R58, R96). -/
theorem State.endSlotFrame_eq (f : Snapshot) (on : s.ring.link ≠ .off) (up : s.ring.link ≠ .withdrawn) :
    s.endSlotFrame f =
      let ended : State := { s with
        sched.snapshot := none
        sched.framesLeft := s.sched.framesLeft - 1
        ring.silence := .running 0
        line.ringFrame := none, line.idleClocks := 0, line.gapClocks := 0
        engine.openList := s.engine.openList.map fun e =>
          if e.state = .attached ∧ e.slot = some f.slot then { e with state := doneWith .sent } else e }
      if s.ring.selfFiling then ended.handOn (f.filing s.ring.ownAddress) else ended := by
  rw [State.endSlotFrame, State.reportFrameSent_eq, Ring.restartSilence_of on up]
  rfl

/-- The end of a slot's frame leaves the successor (R65, R66). -/
theorem State.endSlotFrame_alone (f : Snapshot) (on : s.ring.link ≠ .off) (up : s.ring.link ≠ .withdrawn) :
    (s.endSlotFrame f).ring.alone = s.ring.alone := by
  rw [State.endSlotFrame_eq f on up]
  dsimp only
  split <;> rfl

/-- What follows a slot's frame (R86, R96). -/
theorem State.afterSlotFrame_stop (stop : s.ring.stopRequest = true) : s.afterSlotFrame = s.afterStoppedFrame :=
  if_pos stop

theorem State.afterSlotFrame_next (go : s.ring.stopRequest = false) (holds : s.sched.holding = true)
    (opens : s.sched.sendingOpen = true) :
    s.afterSlotFrame = s.await (some { kind := .opportunity, gap := 4, elapsed := 0 }) :=
  (if_neg (Bool.eq_false_iff.mp go)).trans (if_pos (Bool.and_eq_true_iff.mpr ⟨holds, opens⟩))

theorem State.afterSlotFrame_closed (go : s.ring.stopRequest = false)
    (closed : s.sched.holding = false ∨ s.sched.sendingOpen = false) : s.afterSlotFrame = s :=
  (if_neg (Bool.eq_false_iff.mp go)).trans (if_neg (Bool.eq_false_iff.mp (Bool.and_eq_false_iff.mpr closed)))

/-- Settles O53: the next opportunity, none, and a stop's TOKEN or OFF. -/
theorem slotFrameEnds : Obligations.SlotFrameEnds := by
  unfold Obligations.SlotFrameEnds
  intro s f sending on up sent free own ended t
  have due := s.rowDue_frameEnd.mp ⟨by rw [sending]; exact nofun, sent, free⟩
  have runs : exec .frameEnd s = .next (s.endSlotFrame f).afterSlotFrame.reportLink := by
    rw [exec_frameEnd, execFrameEnd, sending]
    exact congrArg _ (if_pos due)
  have isEnded : s.endSlotFrame f = t := State.endSlotFrame_eq f on up
  obtain ⟨-, stays, holding, sendingOpen⟩ := Linked.endSlotFrame_keeps s f
  have alone := State.endSlotFrame_alone f on up
  rw [isEnded] at runs stays holding sendingOpen alone
  rw [runs]
  refine ⟨fun go holds opens => ?next, fun go closed => ?closed, fun stop together => ?token, fun stop lone => ?off⟩
  case next =>
    rw [State.afterSlotFrame_next (stays.trans go) (holding.trans holds) (sendingOpen.trans opens)]
    rfl
  case closed => rw [State.afterSlotFrame_closed (stays.trans go) (closed.imp holding.trans sendingOpen.trans)]
  case token =>
    rw [State.afterSlotFrame_stop (stays.trans stop), State.afterStoppedFrame_next (alone.trans together)]
    rfl
  case off => rw [State.afterSlotFrame_stop (stays.trans stop), State.afterStoppedFrame_alone (alone.trans lone)]

end Sys2Proof.Machine
end

section
/-!
PROOFS. The step: the queue, the part's own rows, the clock, and rows that are not due.
-/
namespace Sys2Proof.Machine

variable {s : State}

/-- Settles O1, by the definition of the step. -/
theorem stepRunsFrontCommand : Obligations.StepRunsFrontCommand := by
  unfold Obligations.StepRunsFrontCommand
  intro c rest s
  rfl

/-! ### Every row answers a next state and leaves the queue -/

/-- The queue of commands and the count of free values drawn are as they were. -/
def KeepsQueue (s t : State) : Prop := t.pending = s.pending ∧ t.freeCount = s.freeCount

namespace KeepsQueue

variable {t u : State} {o : Host.Outcome State Fault Refusal}

theorem refl (s : State) : KeepsQueue s s := ⟨rfl, rfl⟩

theorem trans (h : KeepsQueue s t) (k : KeepsQueue t u) : KeepsQueue s u := ⟨k.1.trans h.1, k.2.trans h.2⟩

theorem of_move (h : LinkMove s t) : KeepsQueue s t := by
  rw [h.frame]
  exact ⟨rfl, rfl⟩

/-- The rows of the other blocks. -/
theorem of_same (same : Ensures (SameLink s) o) : Ensures (KeepsQueue s) o := fun t e => (same t e).queue

/-- The rows of the link. -/
theorem of_moves (moves : Ensures (LinkMove s) o) : Ensures (KeepsQueue s) o := fun t e => of_move (moves t e)

theorem of_regs (moves : Ensures (RegsMove s) o) : Ensures (KeepsQueue s) o := fun t e => (moves t e).sameLink.queue

theorem execLinkStart (s : State) : Ensures (KeepsQueue s) (execLinkStart s) := by
  rw [Machine.execLinkStart, ensures_next]
  split
  · unfold State.runLinkStart
    split
    · exact (of_move (s.startLink_move _)).trans ⟨rfl, rfl⟩
    · exact ⟨rfl, rfl⟩
  · exact refl s

theorem execLinkStop (s : State) : Ensures (KeepsQueue s) (execLinkStop s) := by
  rw [Machine.execLinkStop, ensures_next]
  split
  · unfold State.runLinkStop
    split
    · exact ⟨rfl, rfl⟩
    · split
      · exact ⟨rfl, rfl⟩
      · exact trans (t := s.waitCommand) ⟨rfl, rfl⟩ (of_move (LinkMove.reported (State.stopLink_move _)))
  · exact refl s

theorem readPart (s : State) (part : MapPart) : KeepsQueue s (s.readPart part) := by
  have ring (s : State) : KeepsQueue s s.readRing := by
    unfold State.readRing
    split <;> exact ⟨rfl, rfl⟩
  have counter (s : State) : KeepsQueue s s.readCounter := (Linked.readCounter_sameLink s).queue
  have cursor (s : State) : KeepsQueue s s.readCursor := (Linked.readCursor_sameLink s).queue
  cases part with
  | ring => exact ring s
  | table => exact counter s
  | scheduler => exact cursor s
  | rest => exact ((ring s).trans (counter _)).trans (cursor _)

theorem execMapRead (s : State) (part : MapPart) : Ensures (KeepsQueue s) (execMapRead part s) := by
  rw [Machine.execMapRead, ensures_next]
  split
  · refine (readPart s part).trans ?_
    unfold State.endMapRead
    split
    · exact ⟨rfl, rfl⟩
    · exact refl _
  · exact refl s

theorem arriveAndFile (s : State) (a : Arrival) (r : FilingRequest) : KeepsQueue s (s.arriveAndFile a r) := by
  unfold State.arriveAndFile
  split
  · exact (of_move (s.arrive_move a)).trans ⟨rfl, rfl⟩
  · exact refl s

theorem execDataFrame (s : State) (source : Addr) (key : Key) (payload : List Byte) :
    Ensures (KeepsQueue s) (execDataFrame source key payload s) := by
  rw [Machine.execDataFrame, ensures_next]
  split
  · exact arriveAndFile s _ _
  · exact of_move (s.arrive_move _)

theorem execFindAndSnapshot (s : State) : Ensures (KeepsQueue s) (execFindAndSnapshot s) := by
  rw [Machine.execFindAndSnapshot, ensures_next]
  split
  · split
    · next k _ =>
      have cleared : KeepsQueue s (s.withSlot k { s.slots[k] with sendPending := false }) := ⟨rfl, rfl⟩
      exact cleared.trans (of_move (s.startSlotFrame_move k))
    · exact of_move s.sendingEnded_move.reported
  · exact refl s

theorem execFrameEnd (s : State) : Ensures (KeepsQueue s) (execFrameEnd s) := by
  rw [Machine.execFrameEnd, ensures_next]
  split
  · next x _ =>
    split
    · have ended : KeepsQueue s (s.endSlotFrame x) := by
        obtain ⟨u, moved, is⟩ := s.endSlotFrame_move x
        rw [is]
        split
        · exact (of_move moved).trans ⟨rfl, rfl⟩
        · exact of_move moved
      exact ended.trans (of_move (State.afterSlotFrame_move _).reported)
    · exact refl s
  · exact refl s

theorem execEngineReset (s : State) (run : Bool) : Ensures (KeepsQueue s) (execEngineReset run s) :=
  ensures_hostAccess (refl s) (trans (t := s.afterEngineReset) ⟨rfl, rfl⟩ (State.controlRun_sameLink _ run).queue)

/-- Every row but POWER_ON_RESET leaves the queue and draws no free value. -/
theorem exec {c : Instr} (noReset : ∀ cause, c ≠ .powerOnReset cause) (s : State) : Ensures (KeepsQueue s) (exec c s) := by
  cases c with
  | powerOnReset cause => exact absurd rfl (noReset cause)
  | deviceReset => exact ensures_hostAccess (refl s) ⟨rfl, rfl⟩
  | engineReset run => exact execEngineReset s run
  | runSet => exact ensures_hostAccess (refl s) (s.controlRun_sameLink true).queue
  | runClear => exact ensures_hostAccess (refl s) (s.controlRun_sameLink false).queue
  | statusWrite value => exact of_regs (execStatusWrite_regsMove s value)
  | ringGeometryWrite reg value => exact of_regs (execRingGeometryWrite_regsMove s reg value)
  | cmdTailWrite value => exact of_regs (execCmdTailWrite_regsMove s value)
  | evtHeadWrite value => exact of_same (execEvtHeadWrite_sameLink s value)
  | notifyLevelWrite value => exact of_regs (execNotifyLevelWrite_regsMove s value)
  | notifyQuietWrite value => exact of_regs (execNotifyQuietWrite_regsMove s value)
  | registerWriteOther offset width => exact of_regs (execRegisterWriteOther_regsMove s offset width)
  | takeBegin => exact of_same (execTakeBegin_sameLink s)
  | cqReadFail access => exact of_same (execCqReadFail_sameLink s access)
  | nop => exact of_same (execNop_sameLink s)
  | store => exact of_same (execStore_sameLink s)
  | fetch => exact of_same (execFetch_sameLink s)
  | send => exact of_same (execSend_sameLink s)
  | cancel => exact of_same (execCancel_sameLink s)
  | tableClear => exact of_same (execTableClear_sameLink s)
  | linkStart => exact execLinkStart s
  | linkStop => exact execLinkStop s
  | mapRead part => exact execMapRead s part
  | barrier => exact of_same (execBarrier_sameLink s)
  | completionWrite => exact of_same (execCompletionWrite_sameLink s)
  | linkNoticeWrite => exact of_same (execLinkNoticeWrite_sameLink s)
  | readForNotice => exact of_same (execReadForNotice_sameLink s)
  | eventWriteDone access => exact of_same (execEventWriteDone_sameLink s access)
  | eventWriteFail access => exact of_same (execEventWriteFail_sameLink s access)
  | busResponseTimeout access => exact of_same (execBusResponseTimeout_sameLink s access)
  | quietTimerExpiry => exact ensures_next.mpr ⟨rfl, rfl⟩
  | activityStart clocks => exact of_moves (execActivityStart_move s clocks)
  | dataFrame source key payload => exact execDataFrame s source key payload
  | solicitFrame source key => exact ensures_next.mpr (arriveAndFile s _ _)
  | tokenFrame source d | inviteFrame source d | joinFrame source d =>
    exact ensures_next.mpr (of_move (s.arriveAddressed_move d _))
  | claimFrame | foreignFrame | garbledFrame => exact ensures_next.mpr (of_move (s.arrive_move _))
  | fileData => exact of_same (execFileData_sameLink s)
  | fileSolicit => exact of_same (execFileSolicit_sameLink s)
  | silenceTimeout => exact of_moves (execSilenceTimeout_move s)
  | responseWindowExpiry => exact of_moves (execResponseWindowExpiry_move s)
  | lonePauseEnd => exact of_moves (execLonePauseEnd_move s)
  | sendOpportunity => exact of_moves (execSendOpportunity_move s)
  | findAndSnapshot => exact execFindAndSnapshot s
  | ringFrameStart => exact of_moves (execRingFrameStart_move s)
  | frameEnd => exact execFrameEnd s
  | ringFrameEnd => exact of_moves (execRingFrameEnd_move s)
  | takeEnd access record => exact of_same (execTakeEnd_sameLink s access record)
  | leaveReset => exact ensures_next.mpr ⟨rfl, rfl⟩

end KeepsQueue

/-- Every row answers a next state. -/
theorem exec_answers (c : Instr) (s : State) : ∃ t, exec c s = .next t := by
  cases c with
  | powerOnReset cause =>
    cases cause with
    | supplyRise => exact ⟨_, rfl⟩
    | pinLow n =>
      rw [exec_powerOnReset, execPowerOnReset]
      split
      · exact ⟨_, rfl⟩
      · split <;> exact ⟨_, rfl⟩
  | _ => exact ⟨_, rfl⟩

/-- A reset leaves the queue too. -/
theorem execPowerOnReset_pending (cause : ResetCause) (s : State) :
    Ensures (fun t => t.pending = s.pending) (execPowerOnReset cause s) := by
  have cut : s.drawFree.cutFrame.pending = s.pending := by
    unfold State.cutFrame
    split <;> rfl
  cases cause with
  | supplyRise => exact ensures_next.mpr rfl
  | pinLow n =>
    rw [execPowerOnReset]
    split
    · exact ensures_next.mpr rfl
    · split
      · exact ensures_next.mpr rfl
      · exact ensures_next.mpr cut

/-- Settles O3. -/
theorem everyCommandAnswersNext : Obligations.EveryCommandAnswersNext := by
  unfold Obligations.EveryCommandAnswersNext
  intro c s
  obtain ⟨t, answers⟩ := exec_answers c s
  refine ⟨t, answers, ?pending, fun noReset => (KeepsQueue.exec noReset s t answers).2⟩
  case pending =>
    by_cases reset : ∃ cause, c = .powerOnReset cause
    · obtain ⟨cause, rfl⟩ := reset
      exact execPowerOnReset_pending cause s t answers
    · exact (KeepsQueue.exec (fun cause is => reset ⟨cause, is⟩) s t answers).1

/-! ### An empty queue: a row of the part's own, or a clock -/

/-- A running timer counts to its limit, a held or stopped one stays (R39 to R41). -/
theorem Timer.tick_eq (limit : Nat) (t : Timer) : t.tick limit =
    match t with
    | .running c => .running (if c < limit then c + 1 else c)
    | .held c => .held c
    | .stopped => .stopped := by
  cases t <;> rfl

/-- While RESET is low no clock passes (R168). -/
theorem State.tick_low (low : s.resetLow = true) : s.tick = s := if_pos low

/-- The idle line, counted while the receiver hunts (R32). -/
theorem State.tickIdle_eq (s : State) : s.tickIdle =
    if s.line.receiver = .hunting ∧ s.transmitting = false then
      if s.lineActive = 0 then
        if s.line.idleClocks < 2 * s.line.divider then s.line.idleClocks + 1 else s.line.idleClocks
      else 0
    else s.line.idleClocks := by
  rw [State.tickIdle]
  simp only [s.hunts_iff]
  rfl

/-- One period of the clock, counter by counter. -/
theorem State.tick_high (high : s.resetLow = false) : s.tick = { s with
    line := { s.line with
      idleClocks := s.tickIdle
      gapClocks := if s.line.gapClocks < 4 * s.line.divider then s.line.gapClocks + 1 else s.line.gapClocks
      txClocks := s.tickShifter
      waiting := s.line.waiting.map fun w =>
        { w with elapsed := if w.elapsed < w.gap * s.line.divider then w.elapsed + 1 else w.elapsed } }
    ring := { s.ring with
      window := s.ring.window.tick (24 * s.line.divider)
      silence := s.ring.silence.tick ((64 + 16 * s.ring.ownAddress.toNat) * s.line.divider)
      pause := s.ring.pause.tick (48 * s.line.divider) }
    engine.cmdRead := s.engine.cmdRead.map fun r =>
      { r with clocks := if r.clocks < 80000 then r.clocks + 1 else r.clocks }
    events := { s.events with
      quietClocks := if s.events.quietClocks < 65535 * 40 then s.events.quietClocks + 1 else s.events.quietClocks
      write := s.events.write.map fun w =>
        { w with clocks := if w.clocks < 80000 then w.clocks + 1 else w.clocks } }
    lineActive := s.lineActive - 1 } := by
  rw [State.tick, if_neg (Bool.eq_false_iff.mp high)]
  rfl

/-- Settles O2: RESET low, a row that is due, and the clock. -/
theorem emptyQueueIsOwnRowOrClock : Obligations.EmptyQueueIsOwnRowOrClock := by
  unfold Obligations.EmptyQueueIsOwnRowOrClock
  intro s empty
  rw [State.step_idle empty]
  refine ⟨fun low => ?low, fun high ⟨c, own, due⟩ => ?row, fun high none => ?clock⟩
  case low => rw [State.ownRow, if_pos low]; exact congrArg _ (State.tick_low low)
  case row =>
    cases is : s.ownRow with
    | none => exact absurd due (State.not_due_of_ownRow high is c own)
    | some r => exact ⟨r, (State.ownRow_due is).1, (State.ownRow_due is).2, rfl⟩
  case clock =>
    have noRow : s.ownRow = .none := by
      cases is : s.ownRow with
      | none => rfl
      | some r => exact absurd (State.ownRow_due is).2 (none r (State.ownRow_due is).1)
    rw [noRow]
    dsimp only
    rw [State.tick_high high, State.tickIdle_eq, Timer.tick_eq, Timer.tick_eq, Timer.tick_eq]
    rfl

/-! ### Right after power-on reset -/

/-- Every register but IDENT reads 0 right after reset (Table 9-1). -/
theorem registerAt_reset {o : Nat} (other : o ≠ 0) : (State.reset.registerAt o).getD 0 = 0 := by
  unfold State.registerAt
  split
  · exact absurd rfl other
  all_goals decide

theorem readRegister_reset {o : Nat} (other : o ≠ 0) : State.reset.readRegister o .word = some 0 := by
  by_cases aligned : o % 4 = 0
  · rw [readRegister_word rfl aligned, registerAt_reset other]
  · exact if_pos aligned

/-- Settles O57. -/
theorem resetSatisfiesInvariants : Obligations.ResetSatisfiesInvariants := by
  unfold Obligations.ResetSatisfiesInvariants
  refine ⟨?inv, ?progress, rfl, rfl, rfl, rfl, rfl, rfl, rfl, rfl, rfl, rfl, rfl, rfl, rfl, rfl, rfl, rfl,
    fun o other => readRegister_reset other, ?ident, rfl⟩
  case inv =>
    have table : State.reset.TableSide := SameTable.keeps (s := State.reset.powerOn) ⟨rfl, rfl, rfl, rfl, rfl⟩
      State.powerOn_tableSide
    have engine : State.reset.EngineSide := State.powerOn_engineSide (s := State.reset)
    have link : Kept State.reset State.reset := .of_reset rfl rfl rfl
    obtain ⟨⟨node, timers, options⟩, line, sending⟩ := (linked_iff State.reset).mpr ⟨link.linked, link.settled⟩
    exact ⟨table, engine, ⟨node, timers, options⟩, line, sending⟩
  case progress => exact State.progressOk_of_silent rfl
  case ident => exact readRegister_word rfl rfl

end Sys2Proof.Machine
end

section
/-!
PROOFS. A row that is not due changes nothing (log 1).
-/
namespace Sys2Proof.Machine

variable {s : State}

/-- While RESET is low a register write changes nothing (R168). -/
theorem hostAccess_not_due {t : State} (due : ¬ s.resetLow = false) : s.hostAccess t = .next s :=
  State.hostAccess_low (Bool.eq_true_of_not_eq_false due)

/-- An answer of the host bus that names no access in flight is ignored (R122, R149, R163, R166, R167). -/
theorem State.reading_iff (s : State) (access : Nat) :
    s.reading access = true ↔ ∃ r, s.engine.cmdRead = some r ∧ r.access = access := by
  simp only [State.reading, Option.any_eq_true, decide_eq_true_eq]

theorem State.writing_iff (s : State) (access : Nat) :
    s.writing access = true ↔ ∃ w, s.events.write = some w ∧ w.access = access := by
  simp only [State.writing, Option.any_eq_true, decide_eq_true_eq]

/-! ### The commands' rows -/

/-- The execution step of a checked command that is not due (R9). -/
theorem State.commandDue_false {c : Command} (checked : s.engine.checked = some c) (due : ¬ s.rowDue c.row) :
    ¬ s.commandDue c = true := mt (State.rowDue_command checked).mpr due

theorem execNop_not_due (due : ¬ s.rowDue .nop) : execNop s = .next s := by
  rw [execNop]
  split
  · next checked => exact absurd checked due
  · rfl

theorem execStore_not_due (due : ¬ s.rowDue .store) : execStore s = .next s := by
  rw [execStore]
  split
  · next o checked => rw [if_neg (State.commandDue_false checked due)]
  · rfl

theorem execFetch_not_due (due : ¬ s.rowDue .fetch) : execFetch s = .next s := by
  rw [execFetch]
  split
  · next k consume checked => rw [if_neg (State.commandDue_false checked due)]
  · rfl

theorem execSend_not_due (due : ¬ s.rowDue .send) : execSend s = .next s := by
  rw [execSend]
  split
  · next k confirm checked => rw [if_neg (State.commandDue_false checked due)]
  · rfl

theorem execCancel_not_due (due : ¬ s.rowDue .cancel) : execCancel s = .next s := by
  rw [execCancel]
  split
  · next k checked => rw [if_neg (State.commandDue_false checked due)]
  · rfl

theorem execTableClear_not_due (due : ¬ s.rowDue .tableClear) : execTableClear s = .next s := by
  rw [execTableClear]
  split
  · next checked => rw [if_neg (State.commandDue_false checked due)]
  · rfl

theorem execLinkStart_not_due (due : ¬ s.rowDue .linkStart) : execLinkStart s = .next s := by
  rw [execLinkStart]
  split
  · next o checked => exact absurd ⟨o, checked⟩ due
  · rfl

theorem execLinkStop_not_due (due : ¬ s.rowDue .linkStop) : execLinkStop s = .next s := by
  rw [execLinkStop]
  split
  · next checked => exact absurd checked due
  · rfl

theorem execMapRead_not_due {part : MapPart} (due : ¬ s.rowDue (.mapRead part)) : execMapRead part s = .next s := by
  rw [execMapRead]
  split
  · next checked => exact absurd checked due
  · rfl

theorem execBarrier_not_due (due : ¬ s.rowDue .barrier) : execBarrier s = .next s := by
  rw [execBarrier]
  split
  · next checked => exact absurd checked due
  · rfl

/-! ### The queue engine's and the event writer's rows -/

theorem execTakeEnd_not_due {access : Nat} {record : List Byte} (due : ¬ s.rowDue (.takeEnd access record)) :
    execTakeEnd access record s = .next s := by
  rw [execTakeEnd]
  split
  · rfl
  · rw [if_neg (mt (s.reading_iff access).mp due)]

theorem execEventWriteDone_not_due {access : Nat} (due : ¬ s.rowDue (.eventWriteDone access)) :
    execEventWriteDone access s = .next s := by
  rw [execEventWriteDone]
  split
  · rfl
  · rw [if_neg (mt (s.writing_iff access).mp due)]

theorem execLinkNoticeWrite_not_due (due : ¬ s.rowDue .linkNoticeWrite) : execLinkNoticeWrite s = .next s := by
  rw [execLinkNoticeWrite]
  split
  · rw [if_neg (mt s.rowDue_linkNoticeWrite.mpr due)]
  · rfl

/-! ### The filings' rows and the arrivals' -/

theorem execFileData_not_due (due : ¬ s.rowDue .fileData) : execFileData s = .next s := by
  rw [execFileData]
  split
  · next source key payload request => rw [if_neg (mt (State.rowDue_filing request).mpr due)]
  · rfl

theorem execFileSolicit_not_due (due : ¬ s.rowDue .fileSolicit) : execFileSolicit s = .next s := by
  rw [execFileSolicit]
  split
  · next source key request => rw [if_neg (mt (State.rowDue_filing request).mpr due)]
  · rfl

/-- With no activity under way there is no arrival (R32). -/
theorem State.arrive_not_due (due : ¬ s.hears = true) (a : Arrival) : s.arrive a = s := if_neg due

theorem State.arriveAddressed_not_due (due : ¬ s.hears = true) (d : Byte) (a : Addr → Arrival) :
    s.arriveAddressed d a = s := by
  rw [State.arriveAddressed, State.arrive_not_due due, State.arrive_not_due due, ite_self]

/-- A frame for a filing path that still holds a request does not arrive (R45). -/
theorem State.arriveAndFile_not_due (due : ¬(s.hears = true ∧ s.filing = none)) (a : Arrival) (r : FilingRequest) :
    s.arriveAndFile a r = s := by
  refine if_neg ?_
  rw [Bool.and_eq_true, Option.isNone_iff_eq_none]
  exact due

theorem execDataFrame_not_due {source : Addr} {key : Key} {payload : List Byte}
    (due : ¬ s.rowDue (.dataFrame source key payload)) : execDataFrame source key payload s = .next s := by
  have due : ¬(s.hears = true ∧ (payload.length ≤ 16 → s.filing = none)) := due
  rw [execDataFrame]
  split
  · next fits => rw [State.arriveAndFile_not_due fun ⟨hears, free⟩ => due ⟨hears, fun _ => free⟩]
  · next long => rw [State.arrive_not_due fun hears => due ⟨hears, fun fits => absurd fits long⟩]

/-! ### The part's own frames -/

theorem execRingFrameStart_not_due (due : ¬ s.rowDue .ringFrameStart) : execRingFrameStart s = .next s := by
  rw [execRingFrameStart]
  split
  · rw [if_neg (mt s.rowDue_ringFrameStart.mpr due)]
  · rfl

theorem execFrameEnd_not_due (due : ¬ s.rowDue .frameEnd) : execFrameEnd s = .next s := by
  rw [execFrameEnd]
  split
  · rw [if_neg (mt s.rowDue_frameEnd.mpr due)]
  · rfl

theorem execRingFrameEnd_not_due (due : ¬ s.rowDue .ringFrameEnd) : execRingFrameEnd s = .next s := by
  rw [execRingFrameEnd]
  split
  · rw [if_neg (mt s.rowDue_ringFrameEnd.mpr due)]
  · rfl

/-- A write to no register, or to one with its own row, is no REGISTER_WRITE_OTHER (R160). -/
theorem execRegisterWriteOther_not_due {offset : Nat} {width : AccessWidth}
    (due : ¬ s.rowDue (.registerWriteOther offset width)) : execRegisterWriteOther offset width s = .next s := by
  have due : ¬(s.resetLow = false ∧ isOtherWrite offset width = true) := due
  rw [execRegisterWriteOther]
  by_cases high : s.resetLow = false
  · rw [State.hostAccess_high high, if_neg fun is => due ⟨high, (Bool.and_eq_true_iff.mp is).1⟩]
  · exact hostAccess_not_due high

/-- Settles O4, row by row. -/
theorem rowsNotDueChangeNothing : Obligations.RowsNotDueChangeNothing := by
  unfold Obligations.RowsNotDueChangeNothing
  intro c s due
  cases c with
  | powerOnReset _ | leaveReset | quietTimerExpiry => exact absurd trivial due
  | deviceReset | engineReset _ | runSet | runClear | statusWrite _ | ringGeometryWrite _ _ | cmdTailWrite _
  | evtHeadWrite _ | notifyLevelWrite _ | notifyQuietWrite _ => exact hostAccess_not_due due
  | registerWriteOther _ _ => exact execRegisterWriteOther_not_due due
  | takeBegin => exact congrArg _ (if_neg (mt s.rowDue_takeBegin.mpr due))
  | takeEnd _ _ => exact execTakeEnd_not_due due
  | cqReadFail access => exact congrArg _ (if_neg (mt (s.reading_iff access).mp due))
  | nop => exact execNop_not_due due
  | store => exact execStore_not_due due
  | fetch => exact execFetch_not_due due
  | send => exact execSend_not_due due
  | cancel => exact execCancel_not_due due
  | tableClear => exact execTableClear_not_due due
  | linkStart => exact execLinkStart_not_due due
  | linkStop => exact execLinkStop_not_due due
  | mapRead _ => exact execMapRead_not_due due
  | barrier => exact execBarrier_not_due due
  | completionWrite => exact congrArg _ (if_neg (mt s.rowDue_completionWrite.mpr due))
  | linkNoticeWrite => exact execLinkNoticeWrite_not_due due
  | readForNotice => exact congrArg _ (if_neg (mt s.rowDue_readForNotice.mpr due))
  | eventWriteDone _ => exact execEventWriteDone_not_due due
  | eventWriteFail access => exact congrArg _ (if_neg (mt (s.writing_iff access).mp due))
  | busResponseTimeout access =>
    rw [exec_busResponseTimeout, execBusResponseTimeout.eq_def, if_neg (mt (s.rowDue_busResponseTimeout access).mpr due)]
  | activityStart _ => exact execActivityStart_not_due due
  | dataFrame _ _ _ => exact execDataFrame_not_due due
  | solicitFrame _ _ => exact congrArg _ (State.arriveAndFile_not_due due _ _)
  | tokenFrame _ _ | inviteFrame _ _ | joinFrame _ _ => exact congrArg _ (State.arriveAddressed_not_due due _ _)
  | claimFrame _ | foreignFrame | garbledFrame => exact congrArg _ (State.arrive_not_due due _)
  | fileData => exact execFileData_not_due due
  | fileSolicit => exact execFileSolicit_not_due due
  | silenceTimeout => exact congrArg _ (if_neg (mt s.rowDue_silenceTimeout.mpr due))
  | responseWindowExpiry => exact congrArg _ (if_neg (mt s.rowDue_responseWindowExpiry.mpr due))
  | lonePauseEnd => exact congrArg _ (if_neg (mt s.rowDue_lonePauseEnd.mpr due))
  | sendOpportunity => exact congrArg _ (if_neg (mt s.rowDue_sendOpportunity.mpr due))
  | findAndSnapshot => exact congrArg _ (if_neg (mt s.rowDue_findAndSnapshot.mpr due))
  | ringFrameStart => exact execRingFrameStart_not_due due
  | frameEnd => exact execFrameEnd_not_due due
  | ringFrameEnd => exact execRingFrameEnd_not_due due

end Sys2Proof.Machine
end

section
/-!
PROOFS. Frames on the line: a valid frame is received as sent, and each failure is reported at its point (R27 to R34).
-/
namespace Sys2Proof.Machine

/-! ### The receiver as a reader of bytes

A reader takes levels and reports. What it does with whole bytes is followed by two facts: which reader it goes on as
after them, and that it wants each of them, so that a byte that fails, or is not all there, settles the outcome. -/

/-- A reader of one byte that goes on by it. -/
def readByte (k : Byte → List Bool → Reception) (levels : List Bool) : Reception :=
  match takeByte levels with
  | .incomplete => .incomplete
  | .failed c => .garbled c
  | .taken b rest => k b rest

/-- A reader of several bytes that goes on by them. -/
def readBytes (n : Nat) (k : List Byte → List Bool → Reception) (levels : List Bool) : Reception :=
  match takeBytes n levels with
  | .incomplete => .incomplete
  | .failed c => .garbled c
  | .taken bs rest => k bs rest

/-- After the bytes the reader wants one more: it reports nothing while that is not all there, and its failure. -/
def Stalls (p : List Bool → Reception) (bs : List Byte) : Prop :=
  ∀ r, (takeByte r = .incomplete → p (bs.flatMap byteLevels ++ r) = .incomplete) ∧
    ∀ c, takeByte r = .failed c → p (bs.flatMap byteLevels ++ r) = .garbled c

/-- The reader `p` wants each of the bytes, and after them goes on as `q`. -/
structure Reads (p : List Bool → Reception) (bs : List Byte) (q : List Bool → Reception) : Prop where
  goesOn : ∀ r, p (bs.flatMap byteLevels ++ r) = q r
  wants : ∀ n < bs.length, Stalls p (bs.take n)

namespace Reads

variable {p q r : List Bool → Reception} {as bs : List Byte}

theorem nil (p : List Bool → Reception) : Reads p [] p := ⟨fun _ => rfl, nofun⟩

theorem append (h : Reads p as q) (k : Reads q bs r) : Reads p (as ++ bs) r where
  goesOn x := by rw [List.flatMap_append, List.append_assoc, h.goesOn, k.goesOn]
  wants n low := by
    by_cases early : n < as.length
    · rw [List.take_append_of_le_length (Nat.le_of_lt early)]
      exact h.wants n early
    · have rest := k.wants (n - as.length) (by rw [List.length_append] at low; omega)
      rw [List.take_append, List.take_of_length_le (by omega)]
      intro x
      rw [List.flatMap_append, List.append_assoc, h.goesOn]
      exact rest x

end Reads

theorem readByte_reads (k : Byte → List Bool → Reception) (b : Byte) : Reads (readByte k) [b] (k b) where
  goesOn r := by
    rw [List.flatMap_cons, List.flatMap_nil, List.append_nil, readByte, takeByte_levels]
  wants n low := by
    obtain rfl : n = 0 := by simpa using low
    intro r
    refine ⟨fun short => ?_, fun c wrong => ?_⟩
    · rw [List.take_zero, List.flatMap_nil, List.nil_append, readByte, short]
    · rw [List.take_zero, List.flatMap_nil, List.nil_append, readByte, wrong]

/-- With too few bytes there, what comes of the next one decides. -/
theorem takeBytes_stalls {n : Nat} {bs : List Byte} (few : bs.length < n) (r : List Bool) :
    (takeByte r = .incomplete → takeBytes n (bs.flatMap byteLevels ++ r) = .incomplete) ∧
      ∀ c, takeByte r = .failed c → takeBytes n (bs.flatMap byteLevels ++ r) = .failed c := by
  induction bs generalizing n with
  | nil =>
    obtain ⟨m, rfl⟩ := Nat.exists_eq_succ_of_ne_zero (Nat.ne_of_gt few)
    rw [List.flatMap_nil, List.nil_append, takeBytes]
    exact ⟨fun short => by rw [short], fun c wrong => by rw [wrong]⟩
  | cons b bs ih =>
    obtain ⟨m, rfl⟩ := Nat.exists_eq_succ_of_ne_zero (Nat.ne_zero_of_lt few)
    obtain ⟨short, wrong⟩ := ih (n := m) (Nat.lt_of_succ_lt_succ few)
    rw [List.flatMap_cons, List.append_assoc, takeBytes, takeByte_levels]
    dsimp only
    exact ⟨fun is => by rw [short is], fun c is => by rw [wrong c is]⟩

theorem readBytes_reads {n : Nat} (k : List Byte → List Bool → Reception) {bs : List Byte} (all : bs.length = n) :
    Reads (readBytes n k) bs (k bs) where
  goesOn r := by rw [readBytes, ← all, takeBytes_levels]
  wants m low := by
    have few : (bs.take m).length < n := by rw [List.length_take]; omega
    intro r
    obtain ⟨short, wrong⟩ := takeBytes_stalls few r
    exact ⟨fun is => by rw [readBytes, short is], fun c is => by rw [readBytes, wrong c is]⟩

/-! ### The frames' readers -/

/-- What the first byte's kind code makes of the rest (R29, R30). -/
def frameAfter (first : Byte) (levels : List Bool) : Reception :=
  let source : Addr := first.setWidth 5
  match first.toNat / 32 with
  | 1 => takeData first source levels
  | 2 => takeSolicit first source levels
  | 3 => takeAddressed (.token source) first levels
  | 4 => takeAddressed (.invite source) first levels
  | 5 => takeAddressed (.join source) first levels
  | 6 => takeEndOfFrame (.claim source) [first] levels
  | 0 => takeExtension false first source levels
  | _ => takeExtension true first source levels

theorem takeFrame_eq : takeFrame = readByte frameAfter := rfl

/-- The check, and then the closing pattern or the mismatch (R31, R34). -/
theorem takeEndOfFrame_eq (f : Frame) (body : List Byte) : takeEndOfFrame f body = readBytes 2 fun check rest =>
    if check = [highByte (frameCheck body), lowByte (frameCheck body)] then takeClosing f 6 rest
    else .garbled .checkMismatch := rfl

theorem takeAddressed_eq (make : Addr → Frame) (first : Byte) : takeAddressed make first = readByte fun d rest =>
    if 31 < d.toNat then .garbled .highDestination else takeEndOfFrame (make (d.setWidth 5)) [first, d] rest := rfl

theorem takeSolicit_eq (first : Byte) (source : Addr) : takeSolicit first source = readBytes 3 fun key rest =>
    takeEndOfFrame (.solicit source (keyOfLine key)) (first :: key) rest := rfl

theorem takeData_eq (first : Byte) (source : Addr) : takeData first source = readBytes 3 fun key =>
    readByte fun length rest =>
      if 16 < length.toNat then .garbled .longLength
      else readBytes length.toNat (fun payload rest =>
        takeEndOfFrame (.data source (keyOfLine key) payload) (first :: (key ++ length :: payload)) rest) rest := rfl

theorem takeExtension_eq (seven : Bool) (first : Byte) (source : Addr) : takeExtension seven first source =
    readByte fun count rest =>
      if 19 < count.toNat then .garbled .highCount
      else readBytes count.toNat (fun bytes rest =>
        takeEndOfFrame (.extension seven source bytes) (first :: count :: bytes) rest) rest := rfl

/-- The first byte read, the frame goes on by its kind code and source. -/
theorem takeFrame_reads (code : BitVec 3) (source : Addr) :
    Reads takeFrame [firstByte code source] fun levels =>
      match code.toNat with
      | 1 => takeData (firstByte code source) source levels
      | 2 => takeSolicit (firstByte code source) source levels
      | 3 => takeAddressed (.token source) (firstByte code source) levels
      | 4 => takeAddressed (.invite source) (firstByte code source) levels
      | 5 => takeAddressed (.join source) (firstByte code source) levels
      | 6 => takeEndOfFrame (.claim source) [firstByte code source] levels
      | 0 => takeExtension false (firstByte code source) source levels
      | _ => takeExtension true (firstByte code source) source levels := by
  have reads := readByte_reads frameAfter (firstByte code source)
  unfold frameAfter at reads
  rw [(firstByte_fields code source).1, (firstByte_fields code source).2] at reads
  exact reads

/-- A destination in its range (R29). -/
theorem takeAddressed_reads (make : Addr → Frame) (first : Byte) (d : Addr) :
    Reads (takeAddressed make first) [d.setWidth 8] (takeEndOfFrame (make d) [first, d.setWidth 8]) := by
  obtain ⟨same, low⟩ := destination_byte d
  have reads := readByte_reads (fun d rest => if 31 < d.toNat then .garbled .highDestination
    else takeEndOfFrame (make (d.setWidth 5)) [first, d] rest) (d.setWidth 8)
  simp only [if_neg low, same] at reads
  exact reads

theorem takeAddressed_high (make : Addr → Frame) (first : Byte) {d : Byte} (high : 31 < d.toNat) :
    Reads (takeAddressed make first) [d] fun _ => .garbled .highDestination := by
  have reads := readByte_reads (fun d rest => if 31 < d.toNat then .garbled .highDestination
    else takeEndOfFrame (make (d.setWidth 5)) [first, d] rest) d
  simp only [if_pos high] at reads
  exact reads

theorem takeSolicit_reads (first : Byte) (source : Addr) (key : Key) :
    Reads (takeSolicit first source) (lineKey key) (takeEndOfFrame (.solicit source key) (first :: lineKey key)) := by
  have reads := readBytes_reads (n := 3) (fun key rest =>
    takeEndOfFrame (.solicit source (keyOfLine key)) (first :: key) rest) (bs := lineKey key) rfl
  simp only [keyOfLine_lineKey] at reads
  exact reads

/-- A count in its range, and the bytes it counts (R29, R30). -/
theorem counted_reads {limit : Nat} (small : limit < 256) {bytes : List Byte} (fits : bytes.length ≤ limit)
    (cause : GarbleCause) (k : Byte → List Byte → List Bool → Reception) :
    Reads (readByte fun count rest => if limit < count.toNat then .garbled cause
      else readBytes count.toNat (k count) rest) (BitVec.ofNat 8 bytes.length :: bytes)
      (k (BitVec.ofNat 8 bytes.length) bytes) := by
  have count : (BitVec.ofNat 8 bytes.length).toNat = bytes.length := Nat.mod_eq_of_lt (show _ < 256 by omega)
  refine Reads.append (as := [_]) (readByte_reads _ _) ?_
  simp only [count, if_neg (not_lt.mpr fits)]
  exact readBytes_reads _ rfl

theorem counted_high {limit : Nat} {count : Byte} (high : limit < count.toNat) (cause : GarbleCause)
    (k : Byte → List Byte → List Bool → Reception) :
    Reads (readByte fun count rest => if limit < count.toNat then .garbled cause
      else readBytes count.toNat (k count) rest) [count] fun _ => .garbled cause := by
  have reads := readByte_reads (fun count rest => if limit < count.toNat then .garbled cause
    else readBytes count.toNat (k count) rest) count
  simp only [if_pos high] at reads
  exact reads

/-- The key, and then the length (R29). -/
theorem takeData_key (first : Byte) (source : Addr) {key : List Byte} (all : key.length = 3) :
    Reads (takeData first source) key (readByte fun length rest => if 16 < length.toNat then .garbled .longLength
      else readBytes length.toNat (fun payload rest =>
        takeEndOfFrame (.data source (keyOfLine key) payload) (first :: (key ++ length :: payload)) rest) rest) :=
  readBytes_reads _ all

theorem takeData_reads (first : Byte) (source : Addr) (key : Key) {payload : List Byte} (fits : payload.length ≤ 16) :
    Reads (takeData first source) (lineKey key ++ BitVec.ofNat 8 payload.length :: payload)
      (takeEndOfFrame (.data source key payload)
        (first :: (lineKey key ++ BitVec.ofNat 8 payload.length :: payload))) := by
  have reads := takeData_key first source (key := lineKey key) rfl
  rw [keyOfLine_lineKey] at reads
  exact reads.append (counted_reads (by decide) fits .longLength fun length payload =>
    takeEndOfFrame (.data source key payload) (first :: (lineKey key ++ length :: payload)))

/-- The bytes of a frame before its check are read each in turn, and the end of that frame follows (R29, R30). -/
theorem takeFrame_body (f : Frame) (wf : f.wf = true) : Reads takeFrame f.body (takeEndOfFrame f f.body) := by
  cases f with
  | data source key payload =>
    have fits : payload.length ≤ 16 := of_decide_eq_true wf
    exact .append (as := [_]) (takeFrame_reads 1 source) (takeData_reads _ source key fits)
  | solicit source key => exact .append (as := [_]) (takeFrame_reads 2 source) (takeSolicit_reads _ source key)
  | token source d => exact .append (as := [_]) (takeFrame_reads 3 source) (takeAddressed_reads _ _ d)
  | invite source d => exact .append (as := [_]) (takeFrame_reads 4 source) (takeAddressed_reads _ _ d)
  | join source d => exact .append (as := [_]) (takeFrame_reads 5 source) (takeAddressed_reads _ _ d)
  | claim source => exact takeFrame_reads 6 source
  | extension seven source bytes =>
    have fits : bytes.length ≤ 19 := of_decide_eq_true wf
    cases seven
    · exact .append (as := [_]) (takeFrame_reads 0 source) (counted_reads (by decide) fits _ _)
    · exact .append (as := [_]) (takeFrame_reads 7 source) (counted_reads (by decide) fits _ _)

/-- The two bytes of the check, right or wrong (R31, R34). -/
theorem takeEndOfFrame_reads (f : Frame) (body : List Byte) (b0 b1 : Byte) :
    Reads (takeEndOfFrame f body) [b0, b1] fun rest =>
      if [b0, b1] = [highByte (frameCheck body), lowByte (frameCheck body)] then takeClosing f 6 rest
      else .garbled .checkMismatch :=
  readBytes_reads _ rfl

/-- All the bytes of a frame are read each in turn, and the closing pattern follows (R28, R29). -/
theorem takeFrame_bytes (f : Frame) (wf : f.wf = true) : Reads takeFrame f.bytes (takeClosing f 6) := by
  have check := takeEndOfFrame_reads f f.body (highByte (frameCheck f.body)) (lowByte (frameCheck f.body))
  simp only [if_true] at check
  exact (takeFrame_body f wf).append check

/-! ### What is reported stays, whatever levels follow -/

/-- A reader's report does not depend on the levels after it. -/
def Final (p : List Bool → Reception) : Prop := ∀ l m, p l ≠ .incomplete → p (l ++ m) = p l

theorem readByte_final {k : Byte → List Bool → Reception} (next : ∀ b, Final (k b)) : Final (readByte k) := by
  intro l m reported
  unfold readByte at reported ⊢
  cases taken : takeByte l with
  | incomplete => rw [taken] at reported; exact absurd rfl reported
  | failed c => rw [(takeByte_append l m).2 c taken]
  | taken b rest =>
    rw [(takeByte_append l m).1 b rest taken]
    rw [taken] at reported
    exact next b rest m reported

theorem readBytes_final {n : Nat} {k : List Byte → List Bool → Reception} (next : ∀ bs, Final (k bs)) :
    Final (readBytes n k) := by
  intro l m reported
  unfold readBytes at reported ⊢
  cases taken : takeBytes n l with
  | incomplete => rw [taken] at reported; exact absurd rfl reported
  | failed c => rw [(takeBytes_append n l m).2 c taken]
  | taken bs rest =>
    rw [(takeBytes_append n l m).1 bs rest taken]
    rw [taken] at reported
    exact next bs rest m reported

theorem final_garbled (c : GarbleCause) : Final fun _ => .garbled c := fun _ _ _ => rfl

theorem Final.ite {c : Prop} [Decidable c] {p q : List Bool → Reception} (h : Final p) (k : Final q) :
    Final fun levels => if c then p levels else q levels := by
  by_cases hc : c
  · simpa only [if_pos hc] using h
  · simpa only [if_neg hc] using k

theorem takeEndOfFrame_final (f : Frame) (body : List Byte) : Final (takeEndOfFrame f body) :=
  readBytes_final fun _ => .ite (fun l m => takeClosing_append f 6 l m) (final_garbled _)

theorem takeAddressed_final (make : Addr → Frame) (first : Byte) : Final (takeAddressed make first) :=
  readByte_final fun _ => .ite (final_garbled _) (takeEndOfFrame_final _ _)

theorem takeSolicit_final (first : Byte) (source : Addr) : Final (takeSolicit first source) :=
  readBytes_final fun _ => takeEndOfFrame_final _ _

theorem takeData_final (first : Byte) (source : Addr) : Final (takeData first source) :=
  readBytes_final fun _ => readByte_final fun _ =>
    .ite (final_garbled _) (readBytes_final fun _ => takeEndOfFrame_final _ _)

theorem takeExtension_final (seven : Bool) (first : Byte) (source : Addr) : Final (takeExtension seven first source) :=
  readByte_final fun _ => .ite (final_garbled _) (readBytes_final fun _ => takeEndOfFrame_final _ _)

theorem frameAfter_final (first : Byte) : Final (frameAfter first) := by
  intro l m
  unfold frameAfter
  dsimp only
  split
  · exact takeData_final _ _ l m
  · exact takeSolicit_final _ _ l m
  · exact takeAddressed_final _ _ l m
  · exact takeAddressed_final _ _ l m
  · exact takeAddressed_final _ _ l m
  · exact takeEndOfFrame_final _ _ l m
  · exact takeExtension_final _ _ _ l m
  · exact takeExtension_final _ _ _ l m

theorem takeFrame_final : Final takeFrame := readByte_final frameAfter_final

theorem takeIdleOpening_final (n : Nat) : Final (takeIdleOpening n) := by
  induction n with
  | zero => exact takeFrame_final
  | succ n ih =>
    intro l m reported
    cases l with
    | nil => exact absurd rfl reported
    | cons level rest =>
      cases level
      · rfl
      · exact ih rest m reported

theorem takeActiveOpening_final (n : Nat) : Final (takeActiveOpening n) := by
  induction n with
  | zero => exact takeIdleOpening_final 4
  | succ n ih =>
    intro l m reported
    cases l with
    | nil => exact absurd rfl reported
    | cons level rest =>
      cases level
      · exact ih rest m reported
      · rfl

/-- Levels that lead to no report had none in any run of them from the start. -/
theorem receive_prefix {l m : List Bool} (silent : receive (l ++ m) = .incomplete) : receive l = .incomplete := by
  by_contra reported
  exact reported ((takeActiveOpening_final 12 l m reported).symm.trans silent)

/-- After the opening pattern the receiver reads the frame (R28). -/
theorem receive_opening (l : List Bool) :
    receive (List.replicate 12 false ++ List.replicate 4 true ++ l) = takeFrame l := rfl

/-! ### The failures of Table 2-4 (R34) -/

/-- Bytes that make a frame garbled at the last of them, whichever levels follow. -/
theorem garbledAt_bytes {bs : List Byte} {cause : GarbleCause} (some : bs ≠ [])
    (reads : Reads takeFrame bs fun _ => .garbled cause) :
    garbledAt (List.replicate 12 false ++ List.replicate 4 true ++ bs.flatMap byteLevels) cause := by
  refine ⟨?silent, fun more => ?garbled⟩
  case silent =>
    obtain ⟨before, b, rfl⟩ := (List.eq_nil_or_concat bs).resolve_left some
    have wants := reads.wants before.length (by simp)
    rw [List.concat_eq_append, List.take_left] at wants
    rw [List.concat_eq_append, List.flatMap_append, ← List.append_assoc,
      List.dropLast_append_of_ne_nil (by simp [byteLevels]), List.append_assoc, receive_opening]
    exact (wants _).1 rfl
  case garbled => rw [List.append_assoc, receive_opening, reads.goesOn]

/-- The outcome of a byte that goes wrong after whole bytes of a frame. -/
theorem garbledAt_stall {bs : List Byte} (stalls : Stalls takeFrame bs) {levels : List Bool} {cause : GarbleCause}
    (silent : takeByte levels.dropLast = .incomplete) (some : levels ≠ [])
    (fails : ∀ more, takeByte (levels ++ more) = .failed cause) :
    garbledAt (List.replicate 12 false ++ List.replicate 4 true ++ bs.flatMap byteLevels ++ levels) cause := by
  refine ⟨?silent, fun more => ?garbled⟩
  case silent =>
    rw [List.dropLast_append_of_ne_nil some, List.append_assoc, receive_opening]
    exact (stalls _).1 silent
  case garbled =>
    rw [List.append_assoc, List.append_assoc, receive_opening]
    exact (stalls _).2 cause (fails more)

/-! ### The closing pattern (R28, R33, R34) -/

theorem takeClosing_active (f : Frame) (n k : Nat) (r : List Bool) :
    takeClosing f (n + k) (List.replicate n false ++ r) = takeClosing f k r := by
  induction n with
  | zero => rw [Nat.zero_add]; rfl
  | succ n ih =>
    rw [Nat.succ_add]
    exact ih

/-- After all the bytes of a frame the closing pattern decides. -/
theorem receive_closing (f : Frame) (wf : f.wf = true) (l : List Bool) :
    receive (List.replicate 12 false ++ List.replicate 4 true ++ f.bytes.flatMap byteLevels ++ l) = takeClosing f 6 l := by
  rw [List.append_assoc, receive_opening, (takeFrame_bytes f wf).goesOn]

/-- A whole frame is received, and no shorter run of its levels is reported (R27 to R33). -/
theorem receive_levels (f : Frame) (wf : f.wf = true) :
    receive (f.levels ++ [true]) = .valid f ∧ ∀ n ≤ f.levels.length, receive (f.levels.take n) = .incomplete := by
  refine ⟨?whole, fun n _ => ?part⟩
  case whole =>
    rw [Frame.levels, List.append_assoc (openingPattern ++ _)]
    exact receive_closing f wf _
  case part =>
    refine receive_prefix (m := f.levels.drop n) ?_
    rw [List.take_append_drop]
    exact receive_closing f wf _

/-! ### The frame check (R31) -/

theorem crcBit_eq (crc : Half) (bit : Bool) :
    crcBit crc bit = (crc <<< 1) ^^^ (if crc.getLsbD 15 = bit then 0x0000 else 0x1021) := by
  rw [crcBit]
  cases crc.getLsbD 15 <;> cases bit <;> simp

theorem frameCheck_append (bytes : List Byte) (b : Byte) : frameCheck (bytes ++ [b]) =
    [7, 6, 5, 4, 3, 2, 1, 0].foldl
      (fun (crc : Half) i => (crc <<< 1) ^^^ (if crc.getLsbD 15 = b.getLsbD i then 0x0000 else 0x1021))
      (frameCheck bytes) := by
  rw [frameCheck, List.foldl_append]
  simp only [← crcBit_eq]
  rfl

theorem Frame.levels_length (f : Frame) : f.levels.length = f.duration := by
  rw [Frame.levels, List.length_append, List.length_append, flatMap_byteLevels_length]
  rfl

/-- A byte with its start bit idle (R34). -/
theorem garbledAt_start {bs : List Byte} (stalls : Stalls takeFrame bs) :
    garbledAt (List.replicate 12 false ++ List.replicate 4 true ++ bs.flatMap byteLevels ++ [true]) .idleMidFrame :=
  garbledAt_stall stalls rfl nofun fun _ => rfl

/-- A byte with its stop bit active (R34). -/
theorem garbledAt_stop {bs : List Byte} (stalls : Stalls takeFrame bs) (b : Byte) :
    garbledAt (List.replicate 12 false ++ List.replicate 4 true ++ bs.flatMap byteLevels ++ (byteLevels b).take 9
      ++ [false]) .stopBit := by
  rw [List.append_assoc]
  exact garbledAt_stall stalls rfl nofun fun _ => rfl

/-- A wrong check (R31, R34). -/
theorem checkMismatch_reads (f : Frame) (wf : f.wf = true) {b0 b1 : Byte} (wrong : f.body ++ [b0, b1] ≠ f.bytes) :
    Reads takeFrame (f.body ++ [b0, b1]) fun _ => .garbled .checkMismatch := by
  have check := takeEndOfFrame_reads f f.body b0 b1
  have differ : [b0, b1] ≠ [highByte (frameCheck f.body), lowByte (frameCheck f.body)] :=
    fun same => wrong (by rw [same]; rfl)
  simp only [if_neg differ] at check
  exact (takeFrame_body f wf).append check

/-- A length, a destination and a count out of range (R34). -/
theorem longLength_reads (source : Addr) {key : List Byte} (all : key.length = 3) {length : Byte}
    (long : 16 < length.toNat) :
    Reads takeFrame (firstByte 1 source :: key ++ [length]) fun _ => .garbled .longLength :=
  .append (as := _ :: key) (.append (as := [_]) (takeFrame_reads 1 source) (takeData_key _ source all))
    (counted_high long _ _)

theorem highDestination_reads (source : Addr) {code : BitVec 3} (addressed : code = 3 ∨ code = 4 ∨ code = 5) {d : Byte}
    (high : 31 < d.toNat) : Reads takeFrame [firstByte code source, d] fun _ => .garbled .highDestination := by
  rcases addressed with rfl | rfl | rfl <;>
    exact .append (as := [_]) (takeFrame_reads _ source) (takeAddressed_high _ _ high)

theorem highCount_reads (source : Addr) {code : BitVec 3} (extension : code = 0 ∨ code = 7) {count : Byte}
    (high : 19 < count.toNat) : Reads takeFrame [firstByte code source, count] fun _ => .garbled .highCount := by
  rcases extension with rfl | rfl <;>
    exact .append (as := [_]) (takeFrame_reads _ source) (counted_high high _ _)

/-- A closing pattern cut short (R34). -/
theorem garbledAt_closingShort (f : Frame) (wf : f.wf = true) {n : Nat} (short : n < 6) :
    garbledAt (List.replicate 12 false ++ List.replicate 4 true ++ f.bytes.flatMap byteLevels ++ List.replicate n false
      ++ [true]) .closingShort := by
  refine ⟨?silent, fun more => ?garbled⟩
  case silent =>
    rw [List.dropLast_concat, receive_closing f wf]
    interval_cases n <;> rfl
  case garbled =>
    rw [List.append_assoc, List.append_assoc, receive_closing f wf]
    interval_cases n <;> rfl

/-- A closing pattern too long (R34). -/
theorem garbledAt_closingLong (f : Frame) (wf : f.wf = true) :
    garbledAt (List.replicate 12 false ++ List.replicate 4 true ++ f.bytes.flatMap byteLevels ++ List.replicate 7 false)
      .closingLong := by
  refine ⟨?silent, fun more => ?garbled⟩
  case silent =>
    rw [List.dropLast_append_of_ne_nil (by simp), receive_closing f wf]
    rfl
  case garbled =>
    rw [List.append_assoc, receive_closing f wf]
    rfl

/-- Settles O56: the check, the bytes, the frame received, and each failure at its point. -/
theorem frameRoundTrip : Obligations.FrameRoundTrip := by
  unfold Obligations.FrameRoundTrip
  refine ⟨⟨rfl, frameCheck_append, ?known⟩, fun source destination key payload => ?bodies, fun f => ⟨rfl, rfl, rfl⟩,
    fun _ => rfl, fun _ _ => rfl, rfl, fun _ => rfl, fun f wf => ?received, fun n some few => ?openingShort,
    ?openingLong, fun n some few => ?openingIdle, fun f n wf low => ?bytes, fun source key length all long => ?length,
    fun source code d addressed high => ?destination, fun source code count extension high => ?count,
    fun f wf => ⟨fun b0 b1 wrong => ?check, fun n short => garbledAt_closingShort f wf short,
      garbledAt_closingLong f wf⟩⟩
  case known => decide +kernel
  case bodies =>
    exact ⟨rfl, rfl, rfl, rfl, rfl, rfl, rfl, rfl, rfl, rfl, rfl, rfl, rfl, rfl, fun _ => rfl⟩
  case received =>
    obtain ⟨whole, parts⟩ := receive_levels f wf
    refine ⟨whole, parts, ?_, f.levels_length⟩
    rw [Frame.duration]
    omega
  case openingShort => interval_cases n <;> exact ⟨rfl, fun _ => rfl⟩
  case openingLong => exact ⟨rfl, fun _ => rfl⟩
  case openingIdle => interval_cases n <;> exact ⟨rfl, fun _ => rfl⟩
  case bytes =>
    have stalls := (takeFrame_bytes f wf).wants n low
    exact ⟨garbledAt_start stalls, garbledAt_stop stalls⟩
  case length => exact garbledAt_bytes nofun (longLength_reads source all long)
  case destination => exact garbledAt_bytes nofun (highDestination_reads source addressed high)
  case count => exact garbledAt_bytes nofun (highCount_reads source extension high)
  case check => exact garbledAt_bytes (by simp) (checkMismatch_reads f wf wrong)

end Sys2Proof.Machine
end
